-- ==== Sys2Proof/Word.lean ====
section
/-! DEFINITION. Word.lean: the byte, and the two fixed-size tables of the part (four lanes; eight stations, eight outputs). -/

namespace Sys2Proof

/-- One byte of a frame on the host link. -/
abbrev Byte := BitVec 8

/-- A tag, 1-65535, naming an item to the host; 0 means "no tag" (Names and numbering). -/
abbrev Tag := BitVec 16

/-- A counter of a counter group: 32 bits, wrapping from 4,294,967,295 to 0 (R188). -/
abbrev Counter := BitVec 32

/-- A lane, 0-3. -/
abbrev LaneId := Fin 4

/-- A station, S0-S7. -/
abbrev StationId := Fin 8

/-- An output line, OUT0-OUT7. -/
abbrev OutputId := Fin 8

/-- A verdict class, 0-15. -/
abbrev VerdictClass := Fin 16

/-- Four like things, one for each lane. -/
structure Quad (α : Type) where
  q0 : α
  q1 : α
  q2 : α
  q3 : α
  deriving DecidableEq, Repr

/-- Eight like things, one for each station or one for each output. -/
structure Oct (α : Type) where
  o0 : α
  o1 : α
  o2 : α
  o3 : α
  o4 : α
  o5 : α
  o6 : α
  o7 : α
  deriving DecidableEq, Repr

variable {α β : Type}

/-- The same thing four times. -/
def Quad.same (a : α) : Quad α := ⟨a, a, a, a⟩

/-- The thing at one lane. -/
def Quad.get (q : Quad α) : LaneId → α
  | 0 => q.q0
  | 1 => q.q1
  | 2 => q.q2
  | 3 => q.q3

/-- The table with one lane's thing replaced. -/
def Quad.set (q : Quad α) (n : LaneId) (a : α) : Quad α :=
  match n with
  | 0 => { q with q0 := a }
  | 1 => { q with q1 := a }
  | 2 => { q with q2 := a }
  | 3 => { q with q3 := a }

/-- The same thing eight times. -/
def Oct.same (a : α) : Oct α := ⟨a, a, a, a, a, a, a, a⟩

/-- The thing at one place of the eight. -/
def Oct.get (o : Oct α) : Fin 8 → α
  | 0 => o.o0
  | 1 => o.o1
  | 2 => o.o2
  | 3 => o.o3
  | 4 => o.o4
  | 5 => o.o5
  | 6 => o.o6
  | 7 => o.o7

/-- The table with one of the eight replaced. -/
def Oct.set (o : Oct α) (n : Fin 8) (a : α) : Oct α :=
  match n with
  | 0 => { o with o0 := a }
  | 1 => { o with o1 := a }
  | 2 => { o with o2 := a }
  | 3 => { o with o3 := a }
  | 4 => { o with o4 := a }
  | 5 => { o with o5 := a }
  | 6 => { o with o6 := a }
  | 7 => { o with o7 := a }

/-- A table of eight given place by place. -/
def Oct.ofFn (f : Fin 8 → α) : Oct α := ⟨f 0, f 1, f 2, f 3, f 4, f 5, f 6, f 7⟩

/-- The lanes in ascending number. -/
def allLanes : List LaneId := [0, 1, 2, 3]

/-- The stations, or the outputs, in ascending number. -/
def allEight : List (Fin 8) := [0, 1, 2, 3, 4, 5, 6, 7]

end Sys2Proof
end

