-- ==== Sys2Proof/Config.lean ====
section
/-! DEFINITION. Config.lean: the capacities the data book fixes, and the values it leaves open. -/

namespace Sys2Proof.Config

/-- The tracking table holds at most 128 items (R3). -/
def tableCapacity : Nat := 128

/-- An output's pending list holds at most 8 entries (R77). -/
def pendingCapacity : Nat := 8

/-- The receive queue and the reply queue hold at most 4 frames each (R156, R160). -/
def linkQueueCapacity : Nat := 4

/-- The report queue holds at most 64 reports (R172). -/
def reportCapacity : Nat := 64

/-- An EVENT report is admitted below this occupancy (R173). -/
def eventCapacity : Nat := 56

/-- The revision number of the devices the data book describes (R167). -/
def revision : Nat := 1

/-- One more than the largest track position, which is a 48-bit count (R98). -/
def positionBound : Nat := 2 ^ 48

/-- FREE VALUE (notes/assumptions/1.md). The track position after a forward tick taken at the largest
48-bit value: "the part makes no provision for the count to wrap" (R98) and the data book gives no
value. The argument is a counter of State, so each such tick has a value of its own. -/
opaque freePosition : Nat → BitVec 48

/-- FREE VALUE (notes/assumptions/16.md). What a 6-byte position field carries for a position formed beyond the largest 48-bit
value: sums are "formed without loss" (R57) and the field holds 48 bits (R197), and the data book says no more. -/
opaque freePositionField : Nat → BitVec 48

/-- FREE VALUE (notes/assumptions/16.md). What the 4-byte length field carries for a length of 2^32 ticks or more (R204, R205). -/
opaque freeLengthField : Nat → BitVec 32

end Sys2Proof.Config
end

