-- ==== Sys2Proof/Syntax.lean ====
section
/-! DEFINITION. Syntax.lean: the commands and events of spec/opcode_table.json, one constructor a row. -/

namespace Sys2Proof

/-- The order in which the blocks take one forward tick. R99 makes the tick an event of each of TRK, DET
and OUT, R88 makes each start and each end at an output an event of its own, and neither says which is
taken first, so the order is an operand of every row that can make a forward tick
(notes/assumptions/4.md). -/
structure TickOrder where
  /-- The outputs that take the tick before TRK makes its commits, in this order. -/
  before : List OutputId
  /-- The outputs that take the tick next after TRK, in this order; those named nowhere follow in ascending number. -/
  after : List OutputId
  /-- For each output, how many of the tick's start events it takes before its TICKS end event. -/
  startsFirst : Oct Nat
  deriving DecidableEq, Repr

/-- TRK, then the outputs in ascending number, each taking its end event before its start events. -/
def TickOrder.standard : TickOrder := ⟨[], [], Oct.same 0⟩

/-- A command or event of the part. The rows from IDENTIFY to ADVANCE and BAD_KIND are a good frame from the
host, given by its SEQ and payload bytes (R196, R200); the three FORCE_OUTPUT rows give the payload's first
byte (the output) and what follows the action byte, which the row itself fixes. The other rows are events
at the part's blocks. -/
inductive Instr where
  | identify (seq : Byte) (payload : List Byte)
  | setLink (seq : Byte) (payload : List Byte)
  | linkResume (seq : Byte) (payload : List Byte)
  | getStatus (seq : Byte) (payload : List Byte)
  | getCounters (seq : Byte) (payload : List Byte)
  | reportAck (seq : Byte) (payload : List Byte)
  | replay (seq : Byte) (payload : List Byte)
  | start (seq : Byte) (payload : List Byte)
  | stop (seq : Byte) (payload : List Byte)
  | halt (seq : Byte) (payload : List Byte)
  | abort (seq : Byte) (payload : List Byte)
  | resume (seq : Byte) (payload : List Byte)
  | purge (seq : Byte) (payload : List Byte)
  | resetPart (seq : Byte) (payload : List Byte)
  | setMotion (seq : Byte) (payload : List Byte)
  | setLane (seq : Byte) (payload : List Byte)
  | setStation (seq : Byte) (payload : List Byte)
  | setOutput (seq : Byte) (payload : List Byte)
  | setReporting (seq : Byte) (payload : List Byte)
  | revert (seq : Byte) (payload : List Byte)
  | readConfig (seq : Byte) (payload : List Byte)
  | apply (seq : Byte) (payload : List Byte)
  | verdict (seq : Byte) (payload : List Byte)
  /-- The next pair of the VERDICT in execution is taken at TRK. -/
  | verdictPair
  | readItem (seq : Byte) (payload : List Byte)
  | listItems (seq : Byte) (payload : List Byte)
  | forceOutputOn (seq : Byte) (output : Byte) (rest : List Byte)
  | forceOutputOff (seq : Byte) (output : Byte) (rest : List Byte)
  | forceOutputPulse (seq : Byte) (output : Byte) (rest : List Byte)
  | advance (seq : Byte) (payload : List Byte)
  /-- The next count of the ADVANCE in execution is made. -/
  | advanceCount (order : TickOrder)
  /-- The ADVANCE in execution completes after its last count. -/
  | advanceEnd
  | badKind (kind : Byte) (seq : Byte) (payload : List Byte)
  /-- Pin reset, with the levels of RATE1 and RATE0 (true is high). -/
  | pinReset (rate1 rate0 : Bool)
  /-- A character received on HRX: its value, and whether its stop bit was at space (a framing error). -/
  | characterReceived (value : Byte) (framingError : Bool)
  | gapTimerExpiry
  | breakRecognised
  /-- The row BREAK: HRX returns to mark after a break. -/
  | linkBreak
  | frameTransmitEnd
  /-- ENCA and ENCB change to these levels. -/
  | encoderTransition (encA encB : Bool) (order : TickOrder)
  | paceCount (order : TickOrder)
  | standstillExpiry
  /-- A sample of DETn at this level (true is high). -/
  | detectorRawChange (lane : LaneId) (level : Bool)
  | detectorRevert (lane : LaneId)
  | debounceExpiry (lane : LaneId)
  /-- TRK takes the oldest creation request of this lane. -/
  | creationRequest (lane : LaneId)
  | endTimeExpiry (output : OutputId)
  | maxOnExpiry (output : OutputId)
  | recoveryExpiry (output : OutputId)
  deriving DecidableEq, Repr

end Sys2Proof
end

