-- ==== Sys2Proof/Decode.lean ====
section
/-! DEFINITION. Decode.lean: the command a word spells by the table's bits. No row of spec/opcode_table.json gives bits: a
command reaches the part as a frame of bytes (R196), which the receiver of Machine/Link.lean takes apart. -/

namespace Sys2Proof

/-- The command a word spells: none, since no row of the table gives bits. -/
def decodeTableWord (_nbits _w : Nat) : Option Instr := none

end Sys2Proof
end

