-- ==== Sys2Proof/Machine/State.lean ====
section
/-! DEFINITION. Machine/State.lean: everything the data book gives the part to hold, block by block, as plain data,
and its values after pin reset. -/

namespace Sys2Proof.Machine

open Sys2Proof

/-! ### Configuration objects (R142) -/

/-- Where counts come from (R100). -/
inductive Source where
  | encoder | pace | hostStep
  deriving DecidableEq, Repr

/-- The level of an input that means "covered", or of an output that means "active" (R115, R75). -/
inductive Polarity where
  | activeHigh | activeLow
  deriving DecidableEq, Repr

/-- A lane's mode: which edge gives the reference position (R115, R126). -/
inductive LaneMode where
  | leading | trailing | centre
  deriving DecidableEq, Repr

/-- A station's kind (R54). -/
inductive StationKind where
  | off | capture | actuate
  deriving DecidableEq, Repr

/-- How a station gives the end of its pulse (R58). -/
inductive DurationMode where
  | ticks | time
  deriving DecidableEq, Repr

/-- What a start that finds its output ACTIVE does (R74, R80). -/
inductive Overlap where
  | reject | merge
  deriving DecidableEq, Repr

/-- The motion object (R100). -/
structure MotionConfig where
  source : Source
  invert : Bool
  paceRate : Nat
  reverseLimit : Nat
  standstill : Nat
  deriving DecidableEq, Repr

/-- A lane object (R115). -/
structure LaneConfig where
  enabled : Bool
  polarity : Polarity
  mode : LaneMode
  debounce : Nat
  holdoff : Nat
  minLength : Nat
  maxLength : Nat
  defaultClass : VerdictClass
  announce : Bool
  deriving DecidableEq, Repr

/-- A station object (R55). Bit c of `actionSet` is the action for class c, 1 FIRE; bit k of `patternMask` is mask entry k, 1 select (R202). -/
structure StationConfig where
  kind : StationKind
  lane : LaneId
  output : OutputId
  offset : Nat
  fireDelay : Nat
  lead : Nat
  durationMode : DurationMode
  duration : Nat
  actionSet : BitVec 16
  patternLength : Nat
  patternMask : BitVec 16
  deriving DecidableEq, Repr

/-- An output object (R74): recovery in microseconds, max-on in milliseconds, 0 meaning no limit. -/
structure OutputConfig where
  enabled : Bool
  polarity : Polarity
  overlap : Overlap
  recovery : Nat
  maxOn : Nat
  deriving DecidableEq, Repr

/-- One copy of the configuration: 22 objects, REPORTING being the status mask by the condition bits of R199 (R142). -/
structure Configuration where
  motion : MotionConfig
  lanes : Quad LaneConfig
  stations : Oct StationConfig
  outputs : Oct OutputConfig
  statusMask : BitVec 16
  deriving DecidableEq, Repr

/-- The motion object after reset (R100). -/
def defaultMotion : MotionConfig := ⟨.encoder, false, 1000, 64, 500⟩

/-- A lane object after reset (R115). -/
def defaultLane : LaneConfig := ⟨false, .activeHigh, .leading, 100, 0, 0, 0, 0, false⟩

/-- Station n's object after reset (R55). -/
def defaultStation (n : StationId) : StationConfig :=
  ⟨.off, 0, n, 1000, 0, 100, .ticks, 100, 0, 1, 1⟩

/-- An output object after reset (R74). -/
def defaultOutput : OutputConfig := ⟨false, .activeHigh, .reject, 0, 0⟩

/-- The default configuration, with every entry of the status mask yes (R142, R147). -/
def defaultConfiguration : Configuration where
  motion := defaultMotion
  lanes := Quad.same defaultLane
  stations := Oct.ofFn defaultStation
  outputs := Oct.same defaultOutput
  statusMask := 0x1FF

/-! ### Line Control -/

/-- The line state (R131). -/
inductive LineState where
  | setup | run | draining | halted
  deriving DecidableEq, Repr

/-- What LCU holds: the line state and the two copies (R131, R142). -/
structure Lcu where
  line : LineState
  staged : Configuration
  active : Configuration
  deriving DecidableEq, Repr

/-! ### Motion Unit -/

/-- What MOT holds (R114). `reference` is the decoder's reference sample (ENCA, ENCB); `standstill` is the running
timer's expiry time, absent when stopped; `paceTime` is the microsecond up to which the pace accumulator has been
brought, and `owedCounts` the overflows up to there whose forward counts are still to be made, the model's own fields
(notes/assumptions/3.md, notes/assumptions/21.md). -/
structure Mot where
  position : Nat
  debt : Nat
  reference : Bool × Bool
  moving : Bool
  standstill : Option Nat
  accumulator : Nat
  paceTime : Nat
  owedCounts : Nat
  encoderError : Bool
  illegal : Counter
  deriving DecidableEq, Repr

/-! ### Detector Unit -/

/-- A lane's detector state (R120). -/
inductive DetectorState where
  | idle | present | suppressed | blocked
  deriving DecidableEq, Repr

/-- A debounce candidate (R118). -/
structure Candidate where
  level : Bool
  edge : Nat
  expiry : Nat
  deriving DecidableEq, Repr

/-- What DET holds for one lane (R120, R129). -/
structure Lane where
  state : DetectorState
  candidate : Option Candidate
  leading : Option Nat
  lastLeading : Option Nat
  suppressed : Counter
  runt : Counter
  overlong : Counter
  deriving DecidableEq, Repr

/-- A creation request from DET (R127). -/
structure CreationRequest where
  lane : LaneId
  reference : Nat
  length : Option Nat
  overlong : Bool
  deriving DecidableEq, Repr

/-! ### Tracking Unit -/

/-- An item's verdict state with its class; it stands for the class, source and verdict-fixed fields, of which no other
combination arises (R31). -/
inductive Verdict where
  | none
  | opened (c : VerdictClass)
  | fixed (c : VerdictClass)
  | defaulted (c : VerdictClass)
  deriving DecidableEq, Repr

/-- Why a station did not act (R11). -/
inductive MissCause where
  | busy | listFull | disabled | purged
  deriving DecidableEq, Repr

/-- The state of one station for one item (R9, R10). -/
inductive StationOutcome where
  | wait | armed | active | fired | passed | skipped
  | missed (cause : MissCause)
  deriving DecidableEq, Repr

/-- One entry of an outcome list (R9). -/
structure Entry where
  station : StationId
  outcome : StationOutcome
  merged : Bool
  lateStart : Bool
  truncated : Bool
  deriving DecidableEq, Repr

/-- An item record (R6, R7, R8). -/
structure Item where
  tag : Tag
  lane : LaneId
  creation : Nat
  reference : Nat
  length : Option Nat
  overlong : Bool
  verdict : Verdict
  amended : Bool
  late : Option VerdictClass
  entries : List Entry
  deriving DecidableEq, Repr

/-- The lane counters TRK keeps (R188). -/
structure LaneCounters where
  created : Counter
  ignored : Counter
  lost : Counter
  defaulted : Counter
  late : Counter
  deriving DecidableEq, Repr

/-- The station counters (R72). -/
structure StationCounters where
  fired : Counter
  passed : Counter
  missed : Counter
  skipped : Counter
  deriving DecidableEq, Repr

/-- What TRK holds: the table in creation order, the next-tag counter, the pattern counters and its counters (R30, R64). -/
structure Trk where
  table : List Item
  nextTag : Tag
  patterns : Oct Nat
  lanes : Quad LaneCounters
  stations : Oct StationCounters
  deriving DecidableEq, Repr

/-! ### Output Unit -/

/-- An output's state (R76). -/
inductive OutputState where
  | idle | active | recovery | forced
  deriving DecidableEq, Repr

/-- The duration specification of a pulse request (R19): an end position, or microseconds. -/
inductive Duration where
  | ticks (endPosition : Nat)
  | time (micros : Nat)
  deriving DecidableEq, Repr

/-- A pulse request, and an entry of a pending list (R63, R77). -/
structure Request where
  tag : Tag
  station : StationId
  start : Nat
  duration : Duration
  deriving DecidableEq, Repr

/-- An active pulse (R76): attached (tag, station) pairs in attachment order. -/
structure Pulse where
  endPosition : Option Nat
  endTime : Option Nat
  attached : List (Tag × StationId)
  deriving DecidableEq, Repr

/-- What OUT holds for one output (R76, R96). `level` is the line, true for high; the two timers are held as their
expiry times. -/
structure Output where
  state : OutputState
  level : Bool
  waiting : List Request
  pulse : Option Pulse
  maxOn : Option Nat
  recovery : Option Nat
  started : Counter
  merged : Counter
  busyMisses : Counter
  truncated : Counter
  deriving DecidableEq, Repr

/-! ### Link Interface and Command Unit -/

/-- A rate code 0-3, in the order of the strap table (R199). -/
abbrev RateCode := Fin 4

/-- The receiver of LNK (R152), with what it has stored of the frame. -/
inductive Receiver where
  | hunt
  | length
  | body (len : Byte) (stored : List Byte)
  | crc (len : Byte) (stored : List Byte) (first : Option Byte)
  deriving DecidableEq, Repr

/-- A good frame from the host, with the CRC it carried (R156). -/
structure Frame where
  kind : Byte
  seq : Byte
  payload : List Byte
  crc : BitVec 16
  deriving DecidableEq, Repr

/-- What the end of a reply's transmission brings (R151, R148). -/
inductive TxEffect where
  | none
  | setRate (code : RateCode)
  | partReset
  deriving DecidableEq, Repr

/-- A reply in the reply queue: the echoed SEQ, the payload in the general reply form, and what its last byte brings (R160, R203). -/
structure Reply where
  seq : Byte
  payload : List Byte
  effect : TxEffect
  deriving DecidableEq, Repr

/-- The entry of the reply cache (R159). -/
structure CacheEntry where
  seq : Byte
  crc : BitVec 16
  payload : List Byte
  deriving DecidableEq, Repr

/-- The cause of a frame error (R154). -/
inductive LinkError where
  | crc | truncated | length | character | overrun
  deriving DecidableEq, Repr

/-- A LINK_NOTICE (R161). -/
structure Notice where
  cause : LinkError
  lastTaken : Option Byte
  deriving DecidableEq, Repr

/-- The frame being sent on HTX (R166). -/
structure Transmission where
  kind : Byte
  seq : Byte
  payload : List Byte
  effect : TxEffect
  deriving DecidableEq, Repr

/-- The link counters (R168). -/
structure LinkCounters where
  goodFrames : Counter
  noise : Counter
  crc : Counter
  truncated : Counter
  length : Counter
  character : Counter
  overrun : Counter
  heldDiscards : Counter
  duplicates : Counter
  breaks : Counter
  deriving DecidableEq, Repr

/-- What LNK holds (R169). `broken` is set from the recognition of a break to the line's return to mark (R164). -/
structure Lnk where
  rate : RateCode
  receiver : Receiver
  broken : Bool
  received : List Frame
  replies : List Reply
  cache : Option CacheEntry
  notice : Option Notice
  hold : Bool
  discards : Nat
  lastTaken : Option Byte
  sending : Option Transmission
  counters : LinkCounters
  deriving DecidableEq, Repr

/-- The result of a command or of a VERDICT pair (R199). -/
inductive Result where
  | ok | accepted | amended | already | tooLate | conflict | notFound
  | badKind | badLength | badArgument | wrongState | invalidConfig | busy | held
  deriving DecidableEq, Repr

/-- A taken command whose reply has not been queued yet; `discard` is set by a link reset during its execution (R157, R165). -/
structure Taken where
  kind : Byte
  seq : Byte
  crc : BitVec 16
  discard : Bool
  deriving DecidableEq, Repr

/-- The state of CMD (R157), with the two commands that take time: ADVANCE with the microsecond at which it was taken (the model's
own mark for the times of its counts, notes/assumptions/3.md), its counts still to make, counts made and forward ticks made (R106),
VERDICT with its pairs not yet taken and the results so far (R34). -/
inductive Cmd where
  | idle
  | advancing (cmd : Taken) (since remaining made ticks : Nat)
  | judging (cmd : Taken) (left : List (Tag × Byte)) (results : List Result)
  | closed
  deriving DecidableEq, Repr

/-! ### Report Unit -/

/-- The nine status conditions (R181). -/
structure LiveStatus where
  line : LineState
  moving : Bool
  reverse : Bool
  jam : Quad Bool
  tableFull : Bool
  encoderError : Bool
  deriving DecidableEq, Repr

/-- Why a purge was made (R24). -/
inductive PurgeCause where
  | trackLost | halt | abort | purge
  deriving DecidableEq, Repr

/-- An item's disposition in ITEM_DONE (R27). -/
inductive Disposition where
  | completed
  | purged (cause : PurgeCause)
  deriving DecidableEq, Repr

/-- A fault kind with the values its FAULT report carries (R175). -/
inductive FaultValues where
  | trackLost (position debt : Nat)
  | tableOverflow (lane : LaneId) (reference : Nat)
  deriving DecidableEq, Repr

/-- A report's body (R170). -/
inductive ReportBody where
  | itemNew (tag : Tag) (lane : LaneId) (reference : Nat) (length : Option Nat) (overlong : Bool)
  | capture (tag : Tag) (station : StationId) (output : OutputId) (start : Nat) (merged lateStart : Bool)
  | itemDone (item : Item) (disposition : Disposition)
  | status (live : LiveStatus) (changed : BitVec 16)
  | fault (values : FaultValues) (occurrences suppressed : Nat)
  deriving DecidableEq, Repr

/-- An entry of the report queue (R171, R172): `sent` is sent-unacknowledged, `onceSent` the once-sent mark. -/
structure ReportEntry where
  number : BitVec 16
  lost : Nat
  position : Nat
  body : ReportBody
  sent : Bool
  onceSent : Bool
  deriving DecidableEq, Repr

/-- What RPT holds (R187). `latchDue` says that this event has called for a comparison of the latch, and is clear
between events: the model's own field (notes/assumptions/9.md). `attention` is ATTN, true when active (low). -/
structure Rpt where
  queue : List ReportEntry
  nextNumber : BitVec 16
  lastAcknowledged : BitVec 16
  window : Nat
  lost : Nat
  suppressedTrackLost : Nat
  suppressedOverflow : Nat
  snapshot : LiveStatus
  latchDue : Bool
  attention : Bool
  lostEvents : Counter
  suppressedFaults : Counter
  deriving DecidableEq, Repr

/-! ### The part -/

/-- The levels on the input pins, true for high (Pin summary). -/
structure Pins where
  encA : Bool
  encB : Bool
  det : Quad Bool
  deriving DecidableEq, Repr

end Sys2Proof.Machine

namespace Sys2Proof.Machine

open Sys2Proof

/-- Why the part stops. Nothing the data book describes stops it and no row of the table does here, so there is no
constructor: a command the part turns away is answered, and an event that finds nothing to act on changes nothing. -/
inductive Fault where
  deriving DecidableEq, Repr

/-- Why a command has no meaning. -/
inductive Refusal where
  /-- Raised by an arm of `exec` whose row has no meaning yet; no arm does. Safe: the machine stops. -/
  | notModelled (mnemonic : String)
  deriving DecidableEq, Repr

/-- The part. -/
structure State where
  /-- The commands and events waiting to be taken, first in, first out: the model's own field. -/
  pending : List Instr
  /-- The time base, in microseconds. -/
  now : Nat
  pins : Pins
  lcu : Lcu
  mot : Mot
  det : Quad Lane
  /-- Creation requests DET has sent and TRK has not yet taken, oldest first (R127). -/
  requests : List CreationRequest
  trk : Trk
  out : Oct Output
  lnk : Lnk
  cmd : Cmd
  rpt : Rpt
  /-- How many free values have been drawn: the model's own field (notes/assumptions/1.md). -/
  drawn : Nat
  deriving DecidableEq, Repr

/-! ### Reset values -/

/-- LCU after either reset (R148, R149). -/
def Lcu.reset : Lcu := ⟨.setup, defaultConfiguration, defaultConfiguration⟩

/-- MOT after either reset (R114). The decoder's reference is the first sample of ENCA and ENCB after the reset, and the
pace generator stands at the time of the reset. -/
def Mot.reset (encoder : Bool × Bool) (now : Nat) : Mot :=
  ⟨0, 0, encoder, false, none, 0, now, 0, false, 0⟩

/-- A lane of DET after either reset (R130). -/
def Lane.reset : Lane := ⟨.idle, none, none, none, 0, 0, 0⟩

/-- TRK after either reset (R30, R53, R64, R73). -/
def Trk.reset : Trk :=
  ⟨[], 1, Oct.same 0, Quad.same ⟨0, 0, 0, 0, 0⟩, Oct.same ⟨0, 0, 0, 0⟩⟩

/-- An output after either reset: IDLE with its line low (R97). -/
def Output.reset : Output := ⟨.idle, false, [], none, none, none, 0, 0, 0, 0⟩

/-- LNK after pin reset, at a strap rate (R169). -/
def Lnk.reset (rate : RateCode) : Lnk :=
  ⟨rate, .hunt, false, [], [], none, none, false, 0, none, none, ⟨0, 0, 0, 0, 0, 0, 0, 0, 0, 0⟩⟩

/-- The reset status (R187). -/
def LiveStatus.reset : LiveStatus := ⟨.setup, false, false, Quad.same false, false, false⟩

/-- RPT after either reset (R187). -/
def Rpt.reset : Rpt := ⟨[], 0, 0xFFFF, 0, 0, 0, 0, .reset, false, false, 0, 0⟩

/-- The part right after pin reset. The data book gives no value for what is outside the part: the straps and the input
pins are low and the time base stands at 0 (notes/assumptions/2.md). -/
def State.reset : State where
  pending := []
  now := 0
  pins := ⟨false, false, Quad.same false⟩
  lcu := .reset
  mot := .reset (false, false) 0
  det := Quad.same .reset
  requests := []
  trk := .reset
  out := Oct.same .reset
  lnk := .reset 0
  cmd := .idle
  rpt := .reset
  drawn := 0

end Sys2Proof.Machine
end

