-- ==== Sys2Proof/Machine/Flags.lean ====
section
/-! DEFINITION. Machine/Flags.lean: the status conditions, the flag sets of the message formats and the levels derived
from them. -/

namespace Sys2Proof.Machine

open Sys2Proof

/-- A word whose bits are these truth values, the first of them bit 0 (R197, flag sets). -/
def bitsOf : List Bool → Nat
  | [] => 0
  | b :: bs => (if b then 1 else 0) + 2 * bitsOf bs

/-- TABLE_FULL: true while the occupancy is 128 (R29). -/
def State.tableFull (s : State) : Bool := s.trk.table.length == Config.tableCapacity

/-- The live status: the present value of the nine conditions (R181). JAMn is true while lane n is BLOCKED (R125) and
REVERSE while the debt is above 0 (R112). -/
def State.liveStatus (s : State) : LiveStatus where
  line := s.lcu.line
  moving := s.mot.moving
  reverse := decide (0 < s.mot.debt)
  jam := ⟨s.det.q0.state == .blocked, s.det.q1.state == .blocked, s.det.q2.state == .blocked, s.det.q3.state == .blocked⟩
  tableFull := s.tableFull
  encoderError := s.mot.encoderError

/-- The conditions in which two statuses differ, by the condition bits of R199. -/
def LiveStatus.differences (a b : LiveStatus) : BitVec 16 :=
  BitVec.ofNat 16 (bitsOf
    [a.line != b.line, a.moving != b.moving, a.reverse != b.reverse, a.jam.q0 != b.jam.q0, a.jam.q1 != b.jam.q1,
     a.jam.q2 != b.jam.q2, a.jam.q3 != b.jam.q3, a.tableFull != b.tableFull, a.encoderError != b.encoderError])

/-- The condition flags of the status block; bit 0 is reserved, the line state standing in byte 0 (R199). -/
def LiveStatus.flagBits (a : LiveStatus) : Nat :=
  bitsOf [false, a.moving, a.reverse, a.jam.q0, a.jam.q1, a.jam.q2, a.jam.q3, a.tableFull, a.encoderError]

/-- The outcome flags byte (R199). -/
def outcomeFlags (merged lateStart truncated : Bool) : Nat := bitsOf [merged, lateStart, truncated]

/-- The item flags byte (R199). -/
def itemFlags (overlong lengthPresent amended latePresent : Bool) : Nat :=
  bitsOf [overlong, lengthPresent, amended, latePresent]

/-- The active level of an output, true for high (R75). -/
def activeLevel : Polarity → Bool
  | .activeHigh => true
  | .activeLow => false

/-- The level an output's state calls for: active in ACTIVE and FORCED, inactive in IDLE and RECOVERY (R75). -/
def levelFor (p : Polarity) : OutputState → Bool
  | .active | .forced => activeLevel p
  | .idle | .recovery => !activeLevel p

/-- Whether a detector level means "covered" (R115). -/
def isCovered (p : Polarity) (level : Bool) : Bool := level == activeLevel p

/-- Whether the lane's expected level is the covered one: all states but IDLE (R117). -/
def expectsCovered : DetectorState → Bool
  | .idle => false
  | .present | .suppressed | .blocked => true

/-- An outcome that no event changes (R10). -/
def StationOutcome.isFinal : StationOutcome → Bool
  | .wait | .armed | .active => false
  | .fired | .passed | .skipped | .missed _ => true

/-- An item every entry of whose outcome list is final (R23). -/
def Item.isDone (i : Item) : Bool := i.entries.all fun e => e.outcome.isFinal

/-- An EVENT report (R170). -/
def ReportBody.isEvent : ReportBody → Bool
  | .itemNew .. | .capture .. | .itemDone .. => true
  | .status .. | .fault .. => false

/-- A STATUS report. -/
def ReportBody.isStatus : ReportBody → Bool
  | .status .. => true
  | _ => false

/-- Of the two fault kinds, TRACK_LOST (R175). -/
def FaultValues.isTrackLost : FaultValues → Bool
  | .trackLost .. => true
  | .tableOverflow .. => false

/-- A FAULT report of the same kind as these values (R175). -/
def ReportBody.isFaultLike (v : FaultValues) : ReportBody → Bool
  | .fault w _ _ => w.isTrackLost == v.isTrackLost
  | _ => false

/-- The number of sent-unacknowledged entries (R176). -/
def Rpt.sentCount (r : Rpt) : Nat := (r.queue.filter fun e => e.sent).length

/-- The number of pending entries (R172). -/
def Rpt.pendingCount (r : Rpt) : Nat := (r.queue.filter fun e => !e.sent).length

/-- The condition for ATTN to be active (R185). -/
def State.attentionDue (s : State) : Bool :=
  s.lnk.hold || s.lcu.line == .halted
    || (s.rpt.queue.any (fun e => !e.sent) && decide (s.rpt.window ≤ s.rpt.sentCount))

end Sys2Proof.Machine
end

