-- ==== Sys2Proof/Machine/Operands.lean ====
section
/-! DEFINITION. Machine/Operands.lean: how fields stand in a payload, the numeric codes, the configuration objects as bytes,
and the CRC (R196 to R202). -/

namespace Sys2Proof.Machine

open Sys2Proof

/-! ### Fields (R197) -/

/-- A number as n bytes, little-endian. -/
def littleEndian : Nat → Nat → List Byte
  | 0, _ => []
  | n + 1, x => BitVec.ofNat 8 x :: littleEndian n (x / 256)

/-- One byte as a field. -/
def byteOf (x : Nat) : Byte := BitVec.ofNat 8 x

/-- The byte of a payload at a place. -/
def byteAt (p : List Byte) (i : Nat) : Byte := p.getD i 0

/-- The 1-byte number at a place. -/
def num8 (p : List Byte) (i : Nat) : Nat := (byteAt p i).toNat

/-- The 2-byte number at a place. -/
def num16 (p : List Byte) (i : Nat) : Nat := num8 p i + 256 * num8 p (i + 1)

/-- The 4-byte number at a place. -/
def num32 (p : List Byte) (i : Nat) : Nat := num16 p i + 65536 * num16 p (i + 2)

/-- A truth value as a byte. -/
def boolByte (b : Bool) : Byte := if b then 1 else 0

/-- A truth value from a byte: any value but 0 and 1 is out of range (R201). -/
def truthOf (b : Byte) : Option Bool :=
  if b = 0 then some false else if b = 1 then some true else none

/-- A number that must be below n. -/
def finOf (n : Nat) (b : Byte) : Option (Fin n) :=
  if h : b.toNat < n then some ⟨b.toNat, h⟩ else none

/-- A number with a range, ends included. -/
def inRange (lo hi x : Nat) : Option Nat := if lo ≤ x ∧ x ≤ hi then some x else none

/-! ### Codes (R199, R202) -/

/-- Result codes (R199). -/
def Result.code : Result → Byte
  | .ok => 0x00
  | .accepted => 0x01
  | .amended => 0x02
  | .already => 0x03
  | .tooLate => 0x04
  | .conflict => 0x05
  | .notFound => 0x06
  | .badKind => 0x10
  | .badLength => 0x11
  | .badArgument => 0x12
  | .wrongState => 0x13
  | .invalidConfig => 0x14
  | .busy => 0x15
  | .held => 0x16

/-- Line state codes (R199). -/
def LineState.code : LineState → Byte
  | .setup => 0
  | .run => 1
  | .draining => 2
  | .halted => 3

/-- Outcome codes (R199). -/
def StationOutcome.code : StationOutcome → Byte
  | .wait => 0
  | .armed => 1
  | .active => 2
  | .fired => 3
  | .passed => 4
  | .skipped => 5
  | .missed _ => 6

/-- Miss cause codes, 0 unless MISSED (R199). -/
def StationOutcome.causeCode : StationOutcome → Byte
  | .missed .busy => 1
  | .missed .listFull => 2
  | .missed .disabled => 3
  | .missed .purged => 4
  | _ => 0

/-- Verdict state codes (R199). -/
def Verdict.code : Verdict → Byte
  | .none => 0
  | .opened _ => 1
  | .fixed _ => 2
  | .defaulted _ => 3

/-- The verdict class of an item, absent in NONE (R31). -/
def Verdict.class? : Verdict → Option VerdictClass
  | .none => Option.none
  | .opened c | .fixed c | .defaulted c => some c

/-- A class byte, 0 where there is none (R197, optional fields). -/
def classByte : Option VerdictClass → Byte
  | Option.none => 0
  | some c => byteOf c.val

/-- Disposition codes (R199). -/
def Disposition.code : Disposition → Byte
  | .completed => 0
  | .purged _ => 1

/-- Purge cause codes, 0 with COMPLETED (R199, R205). -/
def Disposition.causeCode : Disposition → Byte
  | .completed => 0
  | .purged .trackLost => 1
  | .purged .halt => 2
  | .purged .abort => 3
  | .purged .purge => 4

/-- Link error cause codes (R199). -/
def LinkError.code : LinkError → Byte
  | .crc => 1
  | .truncated => 2
  | .length => 3
  | .character => 4
  | .overrun => 5

/-- Source codes (R202). -/
def Source.code : Source → Byte
  | .encoder => 0
  | .pace => 1
  | .hostStep => 2

/-- A source from its code. -/
def sourceOf (b : Byte) : Option Source :=
  if b = 0 then some .encoder else if b = 1 then some .pace else if b = 2 then some .hostStep else none

/-- Polarity codes (R202). -/
def Polarity.code : Polarity → Byte
  | .activeHigh => 0
  | .activeLow => 1

/-- A polarity from its code. -/
def polarityOf (b : Byte) : Option Polarity :=
  if b = 0 then some .activeHigh else if b = 1 then some .activeLow else none

/-- Lane mode codes (R202). -/
def LaneMode.code : LaneMode → Byte
  | .leading => 0
  | .trailing => 1
  | .centre => 2

/-- A lane mode from its code. -/
def laneModeOf (b : Byte) : Option LaneMode :=
  if b = 0 then some .leading else if b = 1 then some .trailing else if b = 2 then some .centre else none

/-- Station kind codes (R202). -/
def StationKind.code : StationKind → Byte
  | .off => 0
  | .capture => 1
  | .actuate => 2

/-- A station kind from its code. -/
def stationKindOf (b : Byte) : Option StationKind :=
  if b = 0 then some .off else if b = 1 then some .capture else if b = 2 then some .actuate else none

/-- Duration mode codes (R202). -/
def DurationMode.code : DurationMode → Byte
  | .ticks => 0
  | .time => 1

/-- A duration mode from its code. -/
def durationModeOf (b : Byte) : Option DurationMode :=
  if b = 0 then some .ticks else if b = 1 then some .time else none

/-- Overlap policy codes (R202). -/
def Overlap.code : Overlap → Byte
  | .reject => 0
  | .merge => 1

/-- An overlap policy from its code. -/
def overlapOf (b : Byte) : Option Overlap :=
  if b = 0 then some .reject else if b = 1 then some .merge else none

/-- The scope of PURGE and LIST_ITEMS: a lane, or ALL, which is `none` here (R199). -/
def scopeOf (b : Byte) : Option (Option LaneId) :=
  if b = 0xFF then some none else (finOf 4 b).map some

/-- Object kinds (R142, R199). -/
inductive ObjectKind where
  | motion | lane | station | output | reporting
  deriving DecidableEq, Repr

/-- Object kind codes (R199). -/
def ObjectKind.code : ObjectKind → Byte
  | .motion => 0
  | .lane => 1
  | .station => 2
  | .output => 3
  | .reporting => 4

/-- Validation codes other than "none" (R199). -/
inductive ViolationCode where
  | notLive | stationLaneDisabled | leadRange | minInLeading | lengthLimits | outputMixed
  | outputForced | patternEmpty | paceRange | noEnabledLane | laneNoStation
  deriving DecidableEq, Repr

/-- The numbers of the validation codes (R199). -/
def ViolationCode.code : ViolationCode → Byte
  | .notLive => 1
  | .stationLaneDisabled => 2
  | .leadRange => 3
  | .minInLeading => 4
  | .lengthLimits => 5
  | .outputMixed => 6
  | .outputForced => 7
  | .patternEmpty => 8
  | .paceRange => 9
  | .noEnabledLane => 10
  | .laneNoStation => 11

/-- A violation: its code, the object kind and the index (R146). -/
structure Violation where
  code : ViolationCode
  object : ObjectKind
  index : Nat
  deriving DecidableEq, Repr

/-- The three validation bytes of a reply; code none, object kind 0 and index 0 when there is nothing to report (R201). -/
def validationBytes : Option Violation → List Byte
  | none => [0, 0, 0]
  | some v => [v.code.code, v.object.code, byteOf v.index]

/-! ### Configuration objects as bytes (R202) -/

/-- The motion object from the bytes of a payload at a place; none if a field is out of range (R100). -/
def readMotion (p : List Byte) (i : Nat) : Option MotionConfig := do
  let source ← sourceOf (byteAt p i)
  let invert ← truthOf (byteAt p (i + 1))
  let paceRate ← inRange 0 1000000 (num32 p (i + 2))
  let standstill ← inRange 1 65535 (num16 p (i + 8))
  return ⟨source, invert, paceRate, num16 p (i + 6), standstill⟩

/-- A lane object from bytes (R115). -/
def readLane (p : List Byte) (i : Nat) : Option LaneConfig := do
  let enabled ← truthOf (byteAt p i)
  let polarity ← polarityOf (byteAt p (i + 1))
  let mode ← laneModeOf (byteAt p (i + 2))
  let maxLength ← inRange 0 4194303 (num32 p (i + 9))
  let defaultClass ← finOf 16 (byteAt p (i + 13))
  let announce ← truthOf (byteAt p (i + 14))
  return ⟨enabled, polarity, mode, num16 p (i + 3), num16 p (i + 5), num16 p (i + 7), maxLength, defaultClass, announce⟩

/-- A station object from bytes (R55). -/
def readStation (p : List Byte) (i : Nat) : Option StationConfig := do
  let kind ← stationKindOf (byteAt p i)
  let lane ← finOf 4 (byteAt p (i + 1))
  let output ← finOf 8 (byteAt p (i + 2))
  let offset ← inRange 1 4194303 (num32 p (i + 3))
  let lead ← inRange 1 65535 (num16 p (i + 9))
  let durationMode ← durationModeOf (byteAt p (i + 11))
  let duration ← inRange 1 65535 (num16 p (i + 12))
  let patternLength ← inRange 1 16 (num8 p (i + 16))
  return ⟨kind, lane, output, offset, num16 p (i + 7), lead, durationMode, duration,
    BitVec.ofNat 16 (num16 p (i + 14)), patternLength, BitVec.ofNat 16 (num16 p (i + 17))⟩

/-- An output object from bytes (R74). -/
def readOutput (p : List Byte) (i : Nat) : Option OutputConfig := do
  let enabled ← truthOf (byteAt p i)
  let polarity ← polarityOf (byteAt p (i + 1))
  let overlap ← overlapOf (byteAt p (i + 2))
  return ⟨enabled, polarity, overlap, num16 p (i + 3), num16 p (i + 5)⟩

/-- The reporting object from bytes: its reserved bits are not read and are stored as 0 (R142, R197). -/
def readReporting (p : List Byte) (i : Nat) : BitVec 16 := BitVec.ofNat 16 (num16 p i) &&& 0x1FF

/-- The motion object as bytes. -/
def motionBytes (c : MotionConfig) : List Byte :=
  c.source.code :: boolByte c.invert :: littleEndian 4 c.paceRate ++ littleEndian 2 c.reverseLimit
    ++ littleEndian 2 c.standstill

/-- A lane object as bytes. -/
def laneBytes (c : LaneConfig) : List Byte :=
  boolByte c.enabled :: c.polarity.code :: c.mode.code :: littleEndian 2 c.debounce ++ littleEndian 2 c.holdoff
    ++ littleEndian 2 c.minLength ++ littleEndian 4 c.maxLength ++ [byteOf c.defaultClass.val, boolByte c.announce]

/-- A station object as bytes. -/
def stationBytes (c : StationConfig) : List Byte :=
  c.kind.code :: byteOf c.lane.val :: byteOf c.output.val :: littleEndian 4 c.offset ++ littleEndian 2 c.fireDelay
    ++ littleEndian 2 c.lead ++ c.durationMode.code :: littleEndian 2 c.duration
    ++ littleEndian 2 c.actionSet.toNat ++ byteOf c.patternLength :: littleEndian 2 c.patternMask.toNat

/-- An output object as bytes. -/
def outputBytes (c : OutputConfig) : List Byte :=
  boolByte c.enabled :: c.polarity.code :: c.overlap.code :: littleEndian 2 c.recovery ++ littleEndian 2 c.maxOn

/-- The reporting object as bytes. -/
def reportingBytes (mask : BitVec 16) : List Byte := littleEndian 2 mask.toNat

/-! ### The CRC and the frame (R2, R196) -/

/-- One bit of the CRC register's shift: polynomial x^16 + x^12 + x^5 + 1, no reflection (R2). -/
def crcShift (c : BitVec 16) : BitVec 16 := if c.msb then (c <<< 1) ^^^ 0x1021 else c <<< 1

/-- The CRC register after one more byte, most significant bit first (R2). -/
def crcByte (c : BitVec 16) (b : Byte) : BitVec 16 :=
  crcShift (crcShift (crcShift (crcShift (crcShift (crcShift (crcShift (crcShift
    (c ^^^ ((b.setWidth 16) <<< 8)))))))))

/-- The CRC of a row of bytes: initial value 0xFFFF, no final inversion (R2). -/
def crcOf (bytes : List Byte) : BitVec 16 := bytes.foldl crcByte 0xFFFF

/-- The CRC of a frame, over LEN and the body (R152). -/
def frameCrc (kind seq : Byte) (payload : List Byte) : BitVec 16 :=
  crcOf (byteOf (payload.length + 2) :: kind :: seq :: payload)

/-- A whole frame as it stands on the link (R196). -/
def wireBytes (kind seq : Byte) (payload : List Byte) : List Byte :=
  0xA5 :: byteOf (payload.length + 2) :: kind :: seq :: payload
    ++ littleEndian 2 (frameCrc kind seq payload).toNat

/-- A frame in transmission as the bytes that pass on HTX (R166). -/
def Transmission.wire (t : Transmission) : List Byte := wireBytes t.kind t.seq t.payload

end Sys2Proof.Machine
end

