-- ==== Sys2Proof/Machine/Formats.lean ====
section
/-! DEFINITION. Machine/Formats.lean: station geometry, and the payloads of reports, the link notice and the inspection
replies (R57, R58, R203 to R205). -/

namespace Sys2Proof.Machine

open Sys2Proof

/-! ### Geometry -/

/-- The start position s = r + O + F (R57). -/
def StationConfig.startPosition (c : StationConfig) (r : Nat) : Nat := r + c.offset + c.fireDelay

/-- The commit point c = r + O + F - L (R57). -/
def StationConfig.commitPoint (c : StationConfig) (r : Nat) : Nat := r + c.offset + c.fireDelay - c.lead

/-- The duration specification of a request: TICKS, the end position s + duration; TIME, the microseconds (R58, R63). -/
def StationConfig.durationFor (c : StationConfig) (r : Nat) : Duration :=
  match c.durationMode with
  | .ticks => .ticks (c.startPosition r + c.duration)
  | .time => .time c.duration

/-! ### Tracking table records -/

/-- A position as the number its 6-byte field carries: itself, or a free value beyond 48 bits (R197; notes/assumptions/16.md). -/
def positionField (x : Nat) : Nat :=
  if x < Config.positionBound then x else (Config.freePositionField x).toNat

/-- A position in its 6-byte field. -/
def positionBytes (x : Nat) : List Byte := littleEndian 6 (positionField x)

/-- The number of the length field: 0 when absent (R197), and a free value where the length does not fit
(notes/assumptions/16.md). -/
def lengthField : Option Nat → Nat
  | none => 0
  | some l => if l < 2 ^ 32 then l else (Config.freeLengthField l).toNat

/-- The length field. -/
def lengthBytes (l : Option Nat) : List Byte := littleEndian 4 (lengthField l)

/-- An item's item flags (R199). -/
def Item.flagByte (i : Item) : Byte := byteOf (itemFlags i.overlong i.length.isSome i.amended i.late.isSome)

/-- An entry's outcome flags (R199). -/
def Entry.flagByte (e : Entry) : Byte := byteOf (outcomeFlags e.merged e.lateStart e.truncated)

/-- An entry of an ITEM_DONE (R205). -/
def Entry.doneBytes (e : Entry) : List Byte :=
  [byteOf e.station.val, e.outcome.code, e.outcome.causeCode, e.flagByte]

/-- An entry of the item record, with its commit point and start position (R204). -/
def Entry.recordBytes (stations : Oct StationConfig) (r : Nat) (e : Entry) : List Byte :=
  e.doneBytes ++ positionBytes ((stations.get e.station).commitPoint r)
    ++ positionBytes ((stations.get e.station).startPosition r)

/-- The READ_ITEM body (R204). -/
def Item.recordBytes (stations : Oct StationConfig) (index : Nat) (i : Item) : List Byte :=
  byteOf index :: littleEndian 2 i.tag.toNat ++ byteOf i.lane.val :: positionBytes i.creation
    ++ positionBytes i.reference ++ lengthBytes i.length
    ++ [i.flagByte, i.verdict.code, classByte i.verdict.class?, classByte i.late, byteOf i.entries.length]
    ++ i.entries.flatMap (Entry.recordBytes stations i.reference)

/-- The number of an item's outcome entries that are not final (R194). -/
def Item.openCount (i : Item) : Nat := (i.entries.filter fun e => !e.outcome.isFinal).length

/-- A LIST_ITEMS summary (R203). -/
def Item.summaryBytes (index : Nat) (i : Item) : List Byte :=
  byteOf index :: littleEndian 2 i.tag.toNat ++ byteOf i.lane.val :: positionBytes i.reference
    ++ [i.verdict.code, byteOf i.openCount]

/-! ### Reports and the link notice (R205) -/

/-- The status block (R199). -/
def LiveStatus.block (l : LiveStatus) : List Byte := l.line.code :: littleEndian 2 l.flagBits

/-- The kind code of a report (R198). -/
def ReportBody.kindCode : ReportBody → Byte
  | .itemNew .. => 0xC0
  | .capture .. => 0xC1
  | .itemDone .. => 0xC2
  | .status .. => 0xC3
  | .fault .. => 0xC4

/-- The body of a report (R205). -/
def ReportBody.bytes : ReportBody → List Byte
  | .itemNew tag lane r length overlong =>
    littleEndian 2 tag.toNat ++ byteOf lane.val :: positionBytes r ++ lengthBytes length
      ++ [byteOf (itemFlags overlong length.isSome false false)]
  | .capture tag station output start merged lateStart =>
    littleEndian 2 tag.toNat ++ byteOf station.val :: byteOf output.val :: positionBytes start
      ++ [byteOf (outcomeFlags merged lateStart false)]
  | .itemDone i d =>
    littleEndian 2 i.tag.toNat ++ byteOf i.lane.val :: positionBytes i.reference ++ lengthBytes i.length
      ++ [i.flagByte, i.verdict.code, classByte i.verdict.class?, classByte i.late, d.code, d.causeCode,
          byteOf i.entries.length]
      ++ i.entries.flatMap Entry.doneBytes
  | .status live changed => live.block ++ littleEndian 2 changed.toNat
  | .fault (.trackLost position debt) occ supp =>
    1 :: littleEndian 2 occ ++ littleEndian 2 supp ++ positionBytes position ++ littleEndian 4 debt
  | .fault (.tableOverflow lane r) occ supp =>
    2 :: littleEndian 2 occ ++ littleEndian 2 supp ++ byteOf lane.val :: littleEndian 3 0 ++ positionBytes r

/-- A report's payload: the 9-byte header, then the body (R205). -/
def ReportEntry.payload (e : ReportEntry) : List Byte :=
  littleEndian 2 e.number.toNat ++ byteOf e.lost :: positionBytes e.position ++ e.body.bytes

/-- A last taken SEQ, with its presence byte (R203, R205). -/
def lastTakenBytes : Option Byte → List Byte
  | none => [0, 0]
  | some q => [1, q]

/-- A LINK_NOTICE's payload (R205). -/
def Notice.payload (n : Notice) : List Byte := n.cause.code :: lastTakenBytes n.lastTaken

end Sys2Proof.Machine
end

