-- ==== Sys2Proof/Machine/Ops.lean ====
section
/-! DEFINITION. Machine/Ops.lean: the operations the blocks share: passing reports and status changes to RPT, the latch, the
line state, and the changes to an item of the tracking table. -/

namespace Sys2Proof.Machine

open Sys2Proof

/-- A list with a function applied to the first element that fits. -/
def modifyFirst {α : Type} (p : α → Bool) (f : α → α) : List α → List α
  | [] => []
  | a :: as => if p a then f a :: as else a :: modifyFirst p f as

/-! ### Passing to the Report Unit -/

/-- A change of live status is passed to the latch, which compares at the end of the event (R182). -/
def passStatus (s : State) : State := { s with rpt := { s.rpt with latchDue := true } }

/-- A report takes a free entry as pending, with the next report number, the lost count, and the track position of its
event; the lost count is set to 0 (R171, R172, R173). -/
def admitReport (body : ReportBody) (s : State) : State :=
  { s with rpt := { s.rpt with
      queue := s.rpt.queue ++ [⟨s.rpt.nextNumber, s.rpt.lost, s.mot.position, body, false, false⟩]
      nextNumber := s.rpt.nextNumber + 1
      lost := 0 } }

/-- An EVENT report is admitted below 56 entries, and dropped and counted otherwise (R173). -/
def passEvent (body : ReportBody) (s : State) : State :=
  if s.rpt.queue.length < Config.eventCapacity then admitReport body s
  else { s with rpt := { s.rpt with lost := min 255 (s.rpt.lost + 1), lostEvents := s.rpt.lostEvents + 1 } }

/-- The suppressed count of a fault's kind (R175). -/
def Rpt.suppressedOf (r : Rpt) (v : FaultValues) : Nat :=
  if v.isTrackLost then r.suppressedTrackLost else r.suppressedOverflow

/-- RPT with the suppressed count of a fault's kind set. -/
def Rpt.withSuppressed (r : Rpt) (v : FaultValues) (n : Nat) : Rpt :=
  if v.isTrackLost then { r with suppressedTrackLost := n } else { r with suppressedOverflow := n }

/-- The occurrence count of a FAULT body raised by one, holding at 65535 (R175). -/
def ReportBody.coalesced : ReportBody → ReportBody
  | .fault v occ supp => .fault v (min 65535 (occ + 1)) supp
  | b => b

/-- An unsent FAULT report of the same kind (R175). -/
def ReportEntry.takesFault (v : FaultValues) (e : ReportEntry) : Bool := e.body.isFaultLike v && !e.onceSent

/-- A fault coalesces into an unsent report of its kind, or is admitted, or is suppressed (R175). -/
def passFault (v : FaultValues) (s : State) : State :=
  if s.rpt.queue.any (·.takesFault v) then
    { s with rpt := { s.rpt with
        queue := modifyFirst (·.takesFault v) (fun e => { e with body := e.body.coalesced }) s.rpt.queue } }
  else if s.rpt.queue.length < Config.reportCapacity then
    let s' := admitReport (.fault v 1 (s.rpt.suppressedOf v)) s
    { s' with rpt := s'.rpt.withSuppressed v 0 }
  else
    { s with rpt := { s.rpt.withSuppressed v (min 65535 (s.rpt.suppressedOf v + 1)) with
        suppressedFaults := s.rpt.suppressedFaults + 1 } }

/-- The masked conditions in which the live status differs from the snapshot (R181). -/
def State.maskedDifferences (s : State) : BitVec 16 :=
  s.liveStatus.differences s.rpt.snapshot &&& s.lcu.active.statusMask

/-- The latch's comparison at the end of an event that called for one (R182). -/
def latchCompare (s : State) : State :=
  if s.rpt.queue.any (fun e => e.body.isStatus) || s.maskedDifferences == 0
      || decide (Config.reportCapacity ≤ s.rpt.queue.length) then s
  else
    let s' := admitReport (.status s.liveStatus s.maskedDifferences) s
    { s' with rpt := { s'.rpt with snapshot := s.liveStatus } }

/-- The latch compares once, after the last change of the event, if the event called for it (R182). -/
def latch (s : State) : State :=
  if s.rpt.latchDue then latchCompare { s with rpt := { s.rpt with latchDue := false } } else s

/-! ### The line state -/

/-- LCU changes the line state and passes the change to the latch (R131). -/
def setLine (l : LineState) (s : State) : State :=
  if s.lcu.line = l then s else passStatus { s with lcu := { s.lcu with line := l } }

/-- The table-empty notice: sent by a removal that empties the table in DRAINING, and taken by LCU as the end of the
drain (R23, R24, R134). -/
def tableEmptyNotice (s : State) : State :=
  if s.trk.table.isEmpty && s.lcu.line == .draining then setLine .setup s else s

/-! ### Counters of TRK and DET -/

/-- A lane's TRK counters changed (R188). -/
def countLane (n : LaneId) (f : LaneCounters → LaneCounters) (s : State) : State :=
  { s with trk := { s.trk with lanes := s.trk.lanes.set n (f (s.trk.lanes.get n)) } }

/-- The station counter of a final outcome, incremented (R72). -/
def StationCounters.count (c : StationCounters) : StationOutcome → StationCounters
  | .fired => { c with fired := c.fired + 1 }
  | .passed => { c with passed := c.passed + 1 }
  | .missed _ => { c with missed := c.missed + 1 }
  | .skipped => { c with skipped := c.skipped + 1 }
  | .wait | .armed | .active => c

/-! ### Items of the tracking table -/

/-- The item holding a tag (R36). -/
def State.item? (s : State) (t : Tag) : Option Item := s.trk.table.find? fun i => i.tag == t

/-- An item's entry for a station. -/
def Item.entry? (i : Item) (st : StationId) : Option Entry := i.entries.find? fun e => e.station == st

/-- The outcome of a station for the item holding a tag, if there are such. -/
def State.outcome? (s : State) (t : Tag) (st : StationId) : Option StationOutcome :=
  ((s.item? t).bind (·.entry? st)).map (·.outcome)

/-- An item with its entry for a station changed. -/
def Item.mapEntry (i : Item) (st : StationId) (f : Entry → Entry) : Item :=
  { i with entries := i.entries.map fun e => if e.station = st then f e else e }

/-- The table with the item holding a tag changed. -/
def mapItem (t : Tag) (f : Item → Item) (s : State) : State :=
  { s with trk := { s.trk with table := s.trk.table.map fun i => if i.tag = t then f i else i } }

/-- One entry of one item changed. -/
def mapEntry (t : Tag) (st : StationId) (f : Entry → Entry) (s : State) : State :=
  mapItem t (fun i => i.mapEntry st f) s

/-- One entry given an outcome, which its station counts when it is final (R10, R72). -/
def setOutcome (t : Tag) (st : StationId) (o : StationOutcome) (s : State) : State :=
  let s' := mapEntry t st (fun e => { e with outcome := o }) s
  { s' with trk := { s'.trk with stations := s'.trk.stations.set st ((s'.trk.stations.get st).count o) } }

/-- An item leaves the table: the others keep their order, ITEM_DONE is passed, a full table is full no more, and a table
left empty in DRAINING ends the drain (R3, R23, R24, R27, R29). -/
def removeItem (i : Item) (d : Disposition) (s : State) : State :=
  let wasFull := s.tableFull
  let s := { s with trk := { s.trk with table := s.trk.table.filter fun j => j.tag != i.tag } }
  let s := passEvent (.itemDone i d) s
  let s := if wasFull then passStatus s else s
  tableEmptyNotice s

/-- The retirement check: an item whose entries are all final leaves with disposition COMPLETED (R23). -/
def retireIfDone (t : Tag) (s : State) : State :=
  match s.item? t with
  | none => s
  | some i => if i.isDone then removeItem i .completed s else s

/-! ### Notices from OUT (R20 to R22, R93) -/

/-- A start notice: an ARMED entry becomes ACTIVE with its flags, and a CAPTURE station's makes a CAPTURE report (R20, R68, R69). -/
def startNotice (t : Tag) (st : StationId) (merged late : Bool) (s : State) : State :=
  match s.item? t with
  | none => s
  | some i =>
    if (i.entry? st).map (·.outcome) = some .armed then
      let s' := mapEntry t st (fun e =>
        { e with outcome := .active, merged := e.merged || merged, lateStart := e.lateStart || late }) s
      let c := s.lcu.active.stations.get st
      if c.kind = .capture then passEvent (.capture t st c.output (c.startPosition i.reference) merged late) s' else s'
    else s

/-- A miss notice: an ARMED entry becomes MISSED with the cause, and the retirement check follows (R21). -/
def missNotice (t : Tag) (st : StationId) (cause : MissCause) (s : State) : State :=
  if s.outcome? t st = some .armed then retireIfDone t (setOutcome t st (.missed cause) s) else s

/-- One pair of an end notice: an ACTIVE entry becomes FIRED, TRUNCATED if reported, and the retirement check follows (R22). -/
def endNoticeFor (truncated : Bool) (s : State) (pair : Tag × StationId) : State :=
  if s.outcome? pair.1 pair.2 = some .active then
    let s := mapEntry pair.1 pair.2 (fun e => { e with truncated := e.truncated || truncated }) s
    retireIfDone pair.1 (setOutcome pair.1 pair.2 .fired s)
  else s

/-- An end notice, its pairs taken in attachment order (R22). -/
def endNotice (pairs : List (Tag × StationId)) (truncated : Bool) (s : State) : State :=
  pairs.foldl (endNoticeFor truncated) s

end Sys2Proof.Machine
end

