-- ==== Sys2Proof/Machine/Outputs.lean ====
section
/-! DEFINITION. Machine/Outputs.lean: the Output Unit: pending lists, start events and their arbitration, ends, recovery
and purge at the output (R74 to R93). -/

namespace Sys2Proof.Machine

open Sys2Proof

/-- One output changed. -/
def mapOutput (n : OutputId) (f : Output → Output) (s : State) : State :=
  { s with out := s.out.set n (f (s.out.get n)) }

/-- An output's active configuration. -/
def State.outputConfig (s : State) (n : OutputId) : OutputConfig := s.lcu.active.outputs.get n

/-- A microsecond time carried forward: the time base stands at a timed event's moment, or later (notes/assumptions/3.md). -/
def reachTime (t : Nat) (s : State) : State := { s with now := max s.now t }

/-! ### End of a pulse -/

/-- Whether every end value the pulse has is met: its end position reached by the track position, its end time by the time
base (R84). -/
def Pulse.endMet (p : Pulse) (position now : Nat) : Bool :=
  p.endPosition.all (fun e => decide (e ≤ position)) && p.endTime.all (fun t => decide (t ≤ now))

/-- The output rests: line inactive, pulse discarded, max-on stopped, and RECOVERY by the recovery time read now, or IDLE
when it is 0 (R85). -/
def restOutput (n : OutputId) (s : State) : State :=
  let c := s.outputConfig n
  let st := if c.recovery = 0 then OutputState.idle else .recovery
  mapOutput n (fun o => { o with
    state := st
    level := levelFor c.polarity st
    pulse := none
    maxOn := none
    recovery := if c.recovery = 0 then none else some (s.now + c.recovery) }) s

/-- The active pulse ends: by its end condition, or cut short, which the TRUNCATED counter counts once; the end notice
names the attached pairs (R85, R87, R90). -/
def endPulse (n : OutputId) (truncated : Bool) (s : State) : State :=
  match (s.out.get n).pulse with
  | none => s
  | some p =>
    let s := restOutput n s
    let s := if truncated then mapOutput n (fun o => { o with truncated := o.truncated + 1 }) s else s
    endNotice p.attached truncated s

/-- The end event, if the end condition is met (R84, R85). -/
def endIfMet (n : OutputId) (s : State) : State :=
  match (s.out.get n).pulse with
  | none => s
  | some p => if p.endMet s.mot.position s.now then endPulse n false s else s

/-! ### Start events -/

/-- A new pulse begins: ACTIVE, line active, max-on read and started, STARTED counted (R81, steps 1 to 4; R94). -/
def beginPulse (n : OutputId) (p : Pulse) (s : State) : State :=
  let c := s.outputConfig n
  mapOutput n (fun o => { o with
    state := .active
    level := levelFor c.polarity .active
    pulse := some p
    maxOn := if c.maxOn = 0 then none else some (s.now + 1000 * c.maxOn)
    recovery := none
    started := o.started + 1 }) s

/-- The pulse a start event begins (R81, step 2). -/
def Request.newPulse (r : Request) (now : Nat) : Pulse :=
  match r.duration with
  | .ticks e => ⟨some e, none, [(r.tag, r.station)]⟩
  | .time d => ⟨none, some (now + d), [(r.tag, r.station)]⟩

/-- The later of an end value already held and a new one (R82). -/
def laterOf (held : Option Nat) (new : Nat) : Option Nat := some (max (held.getD new) new)

/-- The running pulse with a request's item attached and its end extended (R82). -/
def Pulse.extend (p : Pulse) (r : Request) (now : Nat) : Pulse :=
  match r.duration with
  | .ticks e => { p with endPosition := laterOf p.endPosition e, attached := p.attached ++ [(r.tag, r.station)] }
  | .time d => { p with endTime := laterOf p.endTime (now + d), attached := p.attached ++ [(r.tag, r.station)] }

/-- A start refused as BUSY (R80). -/
def refuseBusy (n : OutputId) (r : Request) (s : State) : State :=
  missNotice r.tag r.station .busy (mapOutput n (fun o => { o with busyMisses := o.busyMisses + 1 }) s)

/-- One start event: the entry leaves the list and is judged against the output's enabled field, state and overlap policy
(R79 to R82). -/
def takeStart (n : OutputId) (late : Bool) (r : Request) (s : State) : State :=
  let s := mapOutput n (fun o => { o with waiting := o.waiting.erase r }) s
  let c := s.outputConfig n
  if c.enabled then
    match (s.out.get n).state, c.overlap with
    | .idle, _ => endIfMet n (startNotice r.tag r.station false late (beginPulse n (r.newPulse s.now) s))
    | .active, .merge =>
      startNotice r.tag r.station true late (mapOutput n (fun o => { o with
        pulse := o.pulse.map (·.extend r s.now)
        merged := o.merged + 1 }) s)
    | _, _ => refuseBusy n r s
  else missNotice r.tag r.station .disabled s

/-! ### Requests -/

/-- A pending list with a request at its place: ascending start position, equal ones in arrival order (R77). -/
def insertRequest (r : Request) : List Request → List Request
  | [] => [r]
  | q :: qs => if q.start ≤ r.start then q :: insertRequest r qs else r :: q :: qs

/-- TRK hands a pulse request to its output and takes the answer: MISSED:LIST_FULL when 8 entries are pending, otherwise
ARMED; a request whose start position is already reached is started at once, after every entry before it (R19, R61, R78). Where
another reached entry starts later than the request, the list order is followed and the request's start is not the last: DESIGN
CHOICE (notes/assumptions/23.md). -/
def handRequest (n : OutputId) (r : Request) (s : State) : State :=
  if Config.pendingCapacity ≤ (s.out.get n).waiting.length then setOutcome r.tag r.station (.missed .listFull) s
  else
    let s := setOutcome r.tag r.station .armed (mapOutput n (fun o => { o with waiting := insertRequest r o.waiting }) s)
    if r.start ≤ s.mot.position then
      ((s.out.get n).waiting.filter fun q => decide (q.start ≤ s.mot.position)).foldl
        (fun s q => takeStart n (q == r) q s) s
    else s

/-! ### One forward tick at one output -/

/-- The TICKS end event of a tick: the tick has reached the end position, and the end time, if there is one, is met (R84, R85). -/
def tickEnd (n : OutputId) (s : State) : State :=
  match (s.out.get n).pulse with
  | none => s
  | some p =>
    if p.endPosition = some s.mot.position ∧ p.endMet s.mot.position s.now = true then endPulse n false s else s

/-- The start events of these entries, in list order, none of them late (R79). -/
def takeStarts (n : OutputId) (rs : List Request) (s : State) : State :=
  rs.foldl (fun s r => takeStart n false r s) s

/-- An output takes a forward tick: the start events at the new position in list order, and the end event after the first
k of them (R79, R85, R88). -/
def tickOutput (k : Nat) (n : OutputId) (s : State) : State :=
  let due := (s.out.get n).waiting.filter fun q => decide (q.start = s.mot.position)
  takeStarts n (due.drop k) (tickEnd n (takeStarts n (due.take k) s))

/-! ### Purge at the output (R92) -/

/-- OUT removes a purged item's entry from its pending list. -/
def removeRequest (n : OutputId) (t : Tag) (st : StationId) (s : State) : State :=
  mapOutput n (fun o => { o with waiting := o.waiting.filter fun q => !(q.tag == t && q.station == st) }) s

/-- OUT detaches a purged item from the active pulse, which runs on. -/
def detachItem (n : OutputId) (t : Tag) (st : StationId) (s : State) : State :=
  mapOutput n (fun o => { o with
    pulse := o.pulse.map fun p => { p with attached := p.attached.filter fun a => !(a.1 == t && a.2 == st) } }) s

end Sys2Proof.Machine
end

