-- ==== Sys2Proof/Machine/Tracking.lean ====
section
/-! DEFINITION. Machine/Tracking.lean: the Tracking Unit: commits, the first decision, creation, purge and verdict pairs
(R5 to R53). -/

namespace Sys2Proof.Machine

open Sys2Proof

/-! ### Commits -/

/-- The first decision, made at an item's first ACTUATE commit: NONE takes the lane's default class, counted, and OPEN is
fixed; a verdict already closed is left (R44). -/
def firstDecision (i : Item) (s : State) : State :=
  match i.verdict with
  | .none =>
    countLane i.lane (fun c => { c with defaulted := c.defaulted + 1 })
      (mapItem i.tag (fun j => { j with verdict := .defaulted (s.lcu.active.lanes.get i.lane).defaultClass }) s)
  | .opened c => mapItem i.tag (fun j => { j with verdict := .fixed c }) s
  | .fixed _ | .defaulted _ => s

/-- The class an ACTUATE commit of the item reads, once the first decision is made (R44, R46). -/
def decidedClass (i : Item) (s : State) : VerdictClass :=
  match i.verdict with
  | .none => (s.lcu.active.lanes.get i.lane).defaultClass
  | .opened c | .fixed c | .defaulted c => c

/-- The pulse request a commit forms (R63). -/
def requestFor (i : Item) (st : StationId) (c : StationConfig) : Request :=
  ⟨i.tag, st, c.startPosition i.reference, c.durationFor i.reference⟩

/-- The commit of a WAIT entry: a CAPTURE station requests its pulse; an ACTUATE station makes the first decision, reads
its action set and requests a pulse or is PASSED (R17, R18). An entry not in WAIT is left (R10). -/
def commitEntry (t : Tag) (st : StationId) (s : State) : State :=
  match s.item? t with
  | none => s
  | some i =>
    if (i.entry? st).map (·.outcome) = some .wait then
      let c := s.lcu.active.stations.get st
      match c.kind with
      | .off => s
      | .capture => handRequest c.output (requestFor i st c) s
      | .actuate =>
        let s' := firstDecision i s
        if c.actionSet.getLsbD (decidedClass i s).val then handRequest c.output (requestFor i st c) s'
        else setOutcome t st .passed s'
    else s

/-- The WAIT entries whose commit points fit, in table order and then ascending station number (R16). -/
def State.commitsWhere (s : State) (fits : Nat → Bool) : List (Tag × StationId) :=
  s.trk.table.flatMap fun i =>
    (i.entries.filter fun e =>
      e.outcome == .wait && fits ((s.lcu.active.stations.get e.station).commitPoint i.reference)).map
      fun e => (i.tag, e.station)

/-- TRK takes a forward tick: every WAIT entry whose commit point equals the new position is committed, each with its
retirement check (R16, R23). -/
def tickTracking (s : State) : State :=
  (s.commitsWhere fun c => c == s.mot.position).foldl (fun s p => retireIfDone p.1 (commitEntry p.1 p.2 s)) s

/-! ### Creation -/

/-- The tag value following another: 1 follows 65535 (R5). -/
def tagAfter (t : Tag) : Tag := if t = 0xFFFF then 1 else t + 1

/-- The first value not held, from t on, within so many further tries (R5). -/
def freshTag : Nat → Tag → List Tag → Tag
  | 0, t, _ => t
  | n + 1, t, held => if held.contains t then freshTag n (tagAfter t) held else t

/-- The tag the next creation assigns (R5). -/
def State.newTag (s : State) : Tag :=
  freshTag s.trk.table.length s.trk.nextTag (s.trk.table.map (·.tag))

/-- The outcome list of a lane's new item: one WAIT entry for each CAPTURE or ACTUATE station of the lane, ascending (R8). -/
def newEntries (stations : Oct StationConfig) (lane : LaneId) : List Entry :=
  (allEight.filter fun st => (stations.get st).kind != .off && (stations.get st).lane == lane).map
    fun st => ⟨st, .wait, false, false, false⟩

/-- A new item's record (R6, R7). -/
def newItem (r : CreationRequest) (s : State) : Item :=
  ⟨s.newTag, r.lane, s.mot.position, r.reference, r.length, r.overlong, .none, false, none,
    newEntries s.lcu.active.stations r.lane⟩

/-- The item joins the table's end, its tag is used up, CREATED counts it, and TABLE_FULL may become true (R13, steps 1 to 3;
R29). -/
def placeItem (i : Item) (s : State) : State :=
  let s := { s with trk := { s.trk with table := s.trk.table ++ [i], nextTag := tagAfter i.tag } }
  let s := countLane i.lane (fun c => { c with created := c.created + 1 }) s
  if s.tableFull then passStatus s else s

/-- A CAPTURE entry reads its station's mask entry at the pattern counter, which advances; a skip makes it SKIPPED (R65). -/
def selectPattern (t : Tag) (s : State) (st : StationId) : State :=
  let c := s.lcu.active.stations.get st
  if c.kind = .capture then
    let k := s.trk.patterns.get st
    let s := { s with trk := { s.trk with patterns := s.trk.patterns.set st ((k + 1) % c.patternLength) } }
    if c.patternMask.getLsbD k then s else setOutcome t st .skipped s
  else s

/-- ITEM_NEW is passed when the lane's announce flag is set (R26). -/
def announceItem (i : Item) (s : State) : State :=
  if (s.lcu.active.lanes.get i.lane).announce then
    passEvent (.itemNew i.tag i.lane i.reference i.length i.overlong) s
  else s

/-- The stations of a new item whose commit points are at or behind the creation position (R14). -/
def immediateStations (i : Item) (s : State) : List StationId :=
  (i.entries.map (·.station)).filter fun st =>
    decide ((s.lcu.active.stations.get st).commitPoint i.reference ≤ i.creation)

/-- TRK creates an item (R13). -/
def createItem (r : CreationRequest) (s : State) : State :=
  let i := newItem r s
  let s := placeItem i s
  let s := (i.entries.map (·.station)).foldl (selectPattern i.tag) s
  let s := announceItem i s
  let s := (immediateStations i s).foldl (fun s st => commitEntry i.tag st s) s
  retireIfDone i.tag s

/-- TRK takes a creation request: refused outside RUN and counted IGNORED, refused with a full table and counted LOST with a
TABLE_OVERFLOW fault, and otherwise an item (R12, R28). -/
def takeCreation (r : CreationRequest) (s : State) : State :=
  if s.lcu.line ≠ .run then countLane r.lane (fun c => { c with ignored := c.ignored + 1 }) s
  else if Config.tableCapacity ≤ s.trk.table.length then
    passFault (.tableOverflow r.lane r.reference) (countLane r.lane (fun c => { c with lost := c.lost + 1 }) s)
  else createItem r s

/-! ### Purge -/

/-- A purge takes one entry: WAIT and ARMED become MISSED:PURGED, ACTIVE becomes FIRED and is detached, a final entry is left
(R24). -/
def purgeEntry (t : Tag) (s : State) (st : StationId) : State :=
  let n := (s.lcu.active.stations.get st).output
  match s.outcome? t st with
  | some .wait => setOutcome t st (.missed .purged) s
  | some .armed => setOutcome t st (.missed .purged) (removeRequest n t st s)
  | some .active => setOutcome t st .fired (detachItem n t st s)
  | _ => s

/-- A purge takes one item: its entries in ascending station number, and then it leaves the table (R24). -/
def purgeItem (cause : PurgeCause) (s : State) (i : Item) : State :=
  let s := (i.entries.map (·.station)).foldl (purgeEntry i.tag) s
  match s.item? i.tag with
  | none => s
  | some j => removeItem j (.purged cause) s

/-- The items in a purge's or a listing's scope, `none` being ALL (R24, R194). -/
def inScope (scope : Option LaneId) (i : Item) : Bool := scope.all fun n => i.lane == n

/-- A purge of a scope, in table order (R24). -/
def purgeItems (cause : PurgeCause) (scope : Option LaneId) (s : State) : State :=
  (s.trk.table.filter (inScope scope)).foldl (purgeItem cause) s

/-- The number of items a purge of a scope removes (R140). -/
def State.purgeCount (s : State) (scope : Option LaneId) : Nat := (s.trk.table.filter (inScope scope)).length

/-! ### VERDICT pairs -/

/-- The result of a pair that finds an item (R37 to R41). -/
def pairResult (i : Item) (c : VerdictClass) : Result :=
  match i.verdict with
  | .none => .accepted
  | .opened d => if d = c then .already else .amended
  | .fixed d => if d = c then .already else .conflict
  | .defaulted _ => .tooLate

/-- The item's record after a pair (R37 to R41). -/
def Item.afterPair (i : Item) (c : VerdictClass) : Item :=
  match i.verdict with
  | .none => { i with verdict := .opened c }
  | .opened d => if d = c then i else { i with verdict := .opened c, amended := true }
  | .fixed _ => i
  | .defaulted _ => { i with late := some (i.late.getD c) }

/-- TRK takes one VERDICT pair and gives its result (R35 to R41). -/
def takePair (t : Tag) (class_ : Byte) (s : State) : State × Result :=
  match finOf 16 class_ with
  | none => (s, .badArgument)
  | some c =>
    if t = 0 then (s, .badArgument)
    else
      match s.item? t with
      | none => (s, .notFound)
      | some i =>
        let s := mapItem t (fun j => j.afterPair c) s
        let s := if pairResult i c = .tooLate then countLane i.lane (fun k => { k with late := k.late + 1 }) s else s
        (s, pairResult i c)

end Sys2Proof.Machine
end

