-- ==== Sys2Proof/Machine/Detect.lean ====
section
/-! DEFINITION. Machine/Detect.lean: the Detector Unit: samples, debounce, accepted edges, the overlong test and
re-initialisation (R115 to R130). -/

namespace Sys2Proof.Machine

open Sys2Proof

/-- One lane of DET changed. -/
def mapLane (n : LaneId) (f : Lane → Lane) (s : State) : State :=
  { s with det := s.det.set n (f (s.det.get n)) }

/-- A lane's active configuration. -/
def State.laneConfig (s : State) (n : LaneId) : LaneConfig := s.lcu.active.lanes.get n

/-- DET sends TRK a creation request, which TRK takes as an event of its own (R127). -/
def sendRequest (r : CreationRequest) (s : State) : State := { s with requests := s.requests ++ [r] }

/-- Whether a leading edge at p falls within the lane's holdoff (R121). -/
def withinHoldoff (last : Option Nat) (holdoff p : Nat) : Bool := last.any fun l => decide (p < l + holdoff)

/-- An accepted leading edge in IDLE, at edge position p (R121). -/
def acceptLeading (n : LaneId) (p : Nat) (s : State) : State :=
  let c := s.laneConfig n
  if withinHoldoff (s.det.get n).lastLeading c.holdoff p then
    mapLane n (fun l => { l with state := .suppressed, suppressed := l.suppressed + 1 }) s
  else
    let s := mapLane n (fun l => { l with state := .present, leading := some p, lastLeading := some p }) s
    if c.mode = .leading then sendRequest ⟨n, p, none, false⟩ s else s

/-- An accepted trailing edge in PRESENT, at edge position q, of an object whose leading position is p (R122, R126). One at or beyond
p plus the max length, which no tick has found overlong, is an object like any other: DESIGN CHOICE (notes/assumptions/24.md). -/
def acceptTrailing (n : LaneId) (p q : Nat) (s : State) : State :=
  let c := s.laneConfig n
  let s := mapLane n (fun l => { l with state := .idle, leading := none }) s
  match c.mode with
  | .leading => s
  | .trailing | .centre =>
    if q - p < c.minLength then mapLane n (fun l => { l with runt := l.runt + 1 }) s
    else
      let r := if c.mode = .trailing then q else p + (q - p) / 2
      sendRequest ⟨n, r, some (q - p), false⟩ s

/-- The lane's edge is accepted at an edge position, and handled by the lane's state (R119, R121 to R123). A trailing edge of
a BLOCKED lane makes JAM false, which is passed to the latch (R125). -/
def acceptEdge (n : LaneId) (edge : Nat) (s : State) : State :=
  let s := mapLane n (fun l => { l with candidate := none }) s
  match (s.det.get n).state with
  | .idle => acceptLeading n edge s
  | .present => acceptTrailing n ((s.det.get n).leading.getD edge) edge s
  | .suppressed => mapLane n (fun l => { l with state := .idle }) s
  | .blocked => passStatus (mapLane n (fun l => { l with state := .idle }) s)

/-- A raw change starts a candidate stamped with the track position, and accepts it at once under a debounce of 0 (R118). -/
def startCandidate (n : LaneId) (level : Bool) (s : State) : State :=
  let d := (s.laneConfig n).debounce
  if d = 0 then acceptEdge n s.mot.position s
  else mapLane n (fun l => { l with candidate := some ⟨level, s.mot.position, s.now + d⟩ }) s

/-- DET judges a sample of an enabled lane against the expected level and the candidate (R117). -/
def judgeSample (n : LaneId) (level : Bool) (s : State) : State :=
  let differs := isCovered (s.laneConfig n).polarity level != expectsCovered (s.det.get n).state
  match (s.det.get n).candidate, differs with
  | none, false => s
  | none, true => startCandidate n level s
  | some _, true => s
  | some _, false => mapLane n (fun l => { l with candidate := none }) s

/-- The level on DETn becomes this, and DET samples it if the lane is enabled (R117). -/
def sampleDetector (n : LaneId) (level : Bool) (s : State) : State :=
  let s := { s with pins := { s.pins with det := s.pins.det.set n level } }
  if (s.laneConfig n).enabled then judgeSample n level s else s

/-- The level of DETn that the lane expects (R117). -/
def State.expectedLevel (s : State) (n : LaneId) : Bool :=
  if expectsCovered (s.det.get n).state then activeLevel (s.laneConfig n).polarity
  else !activeLevel (s.laneConfig n).polarity

/-- Whether the overlong test is met at the track position: no trailing candidate from short of the limit holds it off, and
the object is at least M long (R124). -/
def overlongMet (l : Lane) (p m x : Nat) : Bool :=
  !(l.candidate.any fun c => decide (c.edge < p + m)) && decide (m ≤ x - p)

/-- The overlong test of one lane at a forward tick (R124, R126). -/
def overlongTest (s : State) (n : LaneId) : State :=
  let c := s.laneConfig n
  let l := s.det.get n
  match l.state, l.leading with
  | .present, some p =>
    if c.maxLength ≠ 0 ∧ overlongMet l p c.maxLength s.mot.position = true then
      let s := match c.mode with
        | .leading => s
        | .trailing => sendRequest ⟨n, p + c.maxLength, some c.maxLength, true⟩ s
        | .centre => sendRequest ⟨n, p + c.maxLength / 2, some c.maxLength, true⟩ s
      passStatus (mapLane n (fun l =>
        { l with state := .blocked, leading := none, overlong := l.overlong + 1 }) s)
    else s
  | _, _ => s

/-- DET takes a forward tick (R99). -/
def tickDetectors (s : State) : State := allLanes.foldl overlongTest s

/-- Whether a change of its object re-initialises a lane (R128). -/
def reinitialises (old new : LaneConfig) : Bool :=
  old.enabled != new.enabled || (new.enabled && (old.polarity != new.polarity || old.mode != new.mode))

/-- Re-initialisation of a lane under its new object: candidate and leading position dropped, the state by the input's level,
JAM cleared, the last leading position kept (R128). -/
def reinitLane (n : LaneId) (s : State) : State :=
  let c := s.laneConfig n
  let covered := c.enabled && isCovered c.polarity (s.pins.det.get n)
  let wasJammed := (s.det.get n).state == .blocked
  let s := mapLane n (fun l => { l with
    candidate := none, leading := none, state := if covered then .suppressed else .idle }) s
  if wasJammed then passStatus s else s

end Sys2Proof.Machine
end

