-- ==== Sys2Proof/Machine/Motion.lean ====
section
/-! DEFINITION. Machine/Motion.lean: the Motion Unit: counts, forward ticks, reverse debt, TRACK_LOST, and the sources of
counts (R98 to R114). -/

namespace Sys2Proof.Machine

open Sys2Proof

/-- MOT changed. -/
def mapMot (f : Mot → Mot) (s : State) : State := { s with mot := f s.mot }

/-- The track position advances by one; past the largest 48-bit value it takes a free value (R98; notes/assumptions/1.md). -/
def advancePosition (s : State) : State :=
  if s.mot.position + 1 < Config.positionBound then mapMot (fun m => { m with position := m.position + 1 }) s
  else { mapMot (fun m => { m with position := (Config.freePosition s.drawn).toNat }) s with drawn := s.drawn + 1 }

/-- A forward tick restarts the standstill timer and makes MOTION MOVING (R111). -/
def markMoving (s : State) : State :=
  let wasMoving := s.mot.moving
  let s := mapMot (fun m => { m with
    standstill := some (s.now + 1000 * s.lcu.active.motion.standstill), moving := true }) s
  if wasMoving then s else passStatus s

/-- These values without repeats, and without those already seen. -/
def firstTimes (seen : List OutputId) : List OutputId → List OutputId
  | [] => []
  | n :: ns => if seen.contains n then firstTimes seen ns else n :: firstTimes (n :: seen) ns

/-- The outputs that take the tick before TRK. -/
def outputsBefore (o : TickOrder) : List OutputId := firstTimes [] o.before

/-- The outputs that take the tick after TRK: every one not taken before. -/
def outputsAfter (o : TickOrder) : List OutputId :=
  firstTimes (outputsBefore o) (o.after ++ allEight)

/-- These outputs take a forward tick, in this order. -/
def tickOutputs (o : TickOrder) (ns : List OutputId) (s : State) : State :=
  ns.foldl (fun s n => tickOutput (o.startsFirst.get n) n s) s

/-- A forward tick: the track position advances, motion is marked, and DET, TRK and the outputs take the tick, TRK and the
outputs in the order given (R99, R108, R111). -/
def forwardTick (o : TickOrder) (s : State) : State :=
  let s := tickDetectors (markMoving (advancePosition s))
  tickOutputs o (outputsAfter o) (tickTracking (tickOutputs o (outputsBefore o) s))

/-- MOT takes a forward count: it repays debt, or it is a forward tick (R108). -/
def forwardCount (o : TickOrder) (s : State) : State :=
  if s.mot.debt = 0 then forwardTick o s
  else
    let s' := mapMot (fun m => { m with debt := m.debt - 1 }) s
    if s.mot.debt = 1 then passStatus s' else s'

/-- The debt set, with a change of REVERSE passed to the latch (R108, R112). -/
def setDebt (d : Nat) (s : State) : State :=
  let s' := mapMot (fun m => { m with debt := d }) s
  if decide (0 < s.mot.debt) = decide (0 < d) then s' else passStatus s'

/-- LCU takes HALT's course with a purge cause: HALTED from RUN, SETUP from DRAINING, every item purged (R135, R139). -/
def haltLine (cause : PurgeCause) (s : State) : State :=
  purgeItems cause none (setLine (if s.lcu.line = .run then .halted else .setup) s)

/-- MOT takes a reverse count: the debt rises, held at the limit plus one; passing the limit in RUN or DRAINING declares
TRACK_LOST: the debt, the FAULT report, then the halt request (R108, R109). -/
def reverseCount (s : State) : State :=
  let limit := s.lcu.active.motion.reverseLimit
  if limit < s.mot.debt then s
  else
    let s' := setDebt (s.mot.debt + 1) s
    if s.mot.debt = limit ∧ (s.lcu.line = .run ∨ s.lcu.line = .draining) then
      haltLine .trackLost (passFault (.trackLost s'.mot.position s'.mot.debt) s')
    else s'

/-! ### ENCODER -/

/-- The sample that follows a pair of levels in the forward direction, invert no (R102). -/
def forwardOf : Bool × Bool → Bool × Bool
  | (false, false) => (true, false)
  | (true, false) => (true, true)
  | (true, true) => (false, true)
  | (false, true) => (false, false)

/-- An illegal transition: no count, ILLEGAL counted, ENCODER_ERROR set, the change passed if it is one (R103, R112). -/
def illegalTransition (s : State) : State :=
  let s' := mapMot (fun m => { m with illegal := m.illegal + 1, encoderError := true }) s
  if s.mot.encoderError then s' else passStatus s'

/-- ENCA and ENCB are at these levels; under ENCODER the sample is judged against the reference, which it becomes if it
differs (R102, R103). -/
def encoderSample (sample : Bool × Bool) (o : TickOrder) (s : State) : State :=
  let s := { s with pins := { s.pins with encA := sample.1, encB := sample.2 } }
  if s.lcu.active.motion.source = .encoder then
    let ref := s.mot.reference
    if sample = ref then s
    else
      let s := mapMot (fun m => { m with reference := sample }) s
      if sample.1 ≠ ref.1 ∧ sample.2 ≠ ref.2 then illegalTransition s
      else if (sample == forwardOf ref) != s.lcu.active.motion.invert then forwardCount o s
      else reverseCount s
  else s

/-! ### PACE -/

/-- How many further microseconds bring the accumulator to its next overflow at rate R (R104). -/
def paceWait (accumulator rate : Nat) : Nat := (1000000 - accumulator + rate - 1) / rate

/-- The pace generator's next overflow. One that the accumulator has already had makes its forward count; otherwise the microseconds
up to the next are added to the accumulator, the time base reaches it, and one forward count is made (R104). -/
def paceOverflow (o : TickOrder) (s : State) : State :=
  let r := s.lcu.active.motion.paceRate
  if s.lcu.active.motion.source = .pace ∧ r ≠ 0 then
    if s.mot.owedCounts ≠ 0 then forwardCount o (mapMot (fun m => { m with owedCounts := m.owedCounts - 1 }) s)
    else
      let k := paceWait s.mot.accumulator r
      let s := mapMot (fun m => { m with
        accumulator := m.accumulator + k * r - 1000000, paceTime := m.paceTime + k }) s
      forwardCount o (reachTime s.mot.paceTime s)
  else s

/-- The accumulator brought to the present microsecond at the rate in force so far; each overflow on the way is owed its forward
count, which a later PACE_COUNT makes (R101, R104; notes/assumptions/21.md). -/
def paceCatchUp (rate : Nat) (s : State) : State :=
  let sum := s.mot.accumulator + (s.now - s.mot.paceTime) * rate
  mapMot (fun m => { m with
    accumulator := sum % 1000000
    paceTime := max s.now m.paceTime
    owedCounts := m.owedCounts + sum / 1000000 }) s

/-! ### APPLY at MOT -/

/-- What a change of the motion object does at MOT within the APPLY event (R101). -/
def applyMotion (old : MotionConfig) (s : State) : State :=
  let new := s.lcu.active.motion
  let s :=
    if new.source = .encoder ∧ old.source ≠ .encoder then
      mapMot (fun m => { m with reference := (s.pins.encA, s.pins.encB) }) s
    else if new.source = .pace ∧ old.source ≠ .pace then
      mapMot (fun m => { m with accumulator := 0, paceTime := s.now, owedCounts := 0 }) s
    else if new.source = .pace ∧ old.paceRate ≠ new.paceRate then paceCatchUp old.paceRate s
    else s
  if new.reverseLimit + 1 < s.mot.debt then mapMot (fun m => { m with debt := new.reverseLimit + 1 }) s else s

end Sys2Proof.Machine
end

