-- ==== Sys2Proof/Machine/Link.lean ====
section
/-! DEFINITION. Machine/Link.lean: the Link Interface: receiver, hold, queues, break, resets and the transmit arbiter, and
the sending side of the Report Unit (R150 to R179). -/

namespace Sys2Proof.Machine

open Sys2Proof

/-- LNK changed. -/
def mapLnk (f : Lnk → Lnk) (s : State) : State := { s with lnk := f s.lnk }

/-- A link counter changed. -/
def countLink (f : LinkCounters → LinkCounters) (s : State) : State :=
  mapLnk (fun l => { l with counters := f l.counters }) s

/-! ### Frame errors and hold -/

/-- The counter of a frame error's cause, incremented (R154, R168). -/
def LinkCounters.countError (c : LinkCounters) : LinkError → LinkCounters
  | .crc => { c with crc := c.crc + 1 }
  | .truncated => { c with truncated := c.truncated + 1 }
  | .length => { c with length := c.length + 1 }
  | .character => { c with character := c.character + 1 }
  | .overrun => { c with overrun := c.overrun + 1 }

/-- A frame error: the partial frame is discarded, its cause counted, and out of hold the link enters hold with a notice (R154,
R161). -/
def frameError (cause : LinkError) (s : State) : State :=
  let s := countLink (·.countError cause) (mapLnk (fun l => { l with receiver := .hunt }) s)
  if s.lnk.hold then s
  else mapLnk (fun l => { l with hold := true, discards := 0, notice := some ⟨cause, l.lastTaken⟩ }) s

/-- A good frame is offered to the receive queue: it joins, or is dropped as an OVERRUN (R156). -/
def offerFrame (f : Frame) (s : State) : State :=
  if s.lnk.received.length < Config.linkQueueCapacity then
    countLink (fun c => { c with goodFrames := c.goodFrames + 1 })
      (mapLnk (fun l => { l with received := l.received ++ [f] }) s)
  else frameError .overrun s

/-! ### The receiver -/

/-- The frame a body of characters makes, with the two CRC characters that followed it. -/
def frameOf (stored : List Byte) (low high : Byte) : Frame :=
  ⟨byteAt stored 0, byteAt stored 1, stored.drop 2, high ++ low⟩

/-- A whole frame is judged by its CRC over LEN and the body (R152). -/
def judgeFrame (len : Byte) (stored : List Byte) (low high : Byte) (s : State) : State :=
  if crcOf (len :: stored) = high ++ low then
    offerFrame (frameOf stored low high) (mapLnk (fun l => { l with receiver := .hunt }) s)
  else frameError .crc s

/-- A character with its stop bit at mark, by the receiver's state (R152). -/
def takeCharacter (v : Byte) (s : State) : State :=
  match s.lnk.receiver with
  | .hunt =>
    if v = 0xA5 then mapLnk (fun l => { l with receiver := .length }) s
    else countLink (fun c => { c with noise := c.noise + 1 }) s
  | .length =>
    if 2 ≤ v.toNat ∧ v.toNat ≤ 250 then mapLnk (fun l => { l with receiver := .body v [] }) s
    else frameError .length s
  | .body len stored =>
    let stored' := stored ++ [v]
    mapLnk (fun l => { l with
      receiver := if len.toNat ≤ stored'.length then .crc len stored' none else .body len stored' }) s
  | .crc len stored none => mapLnk (fun l => { l with receiver := .crc len stored (some v) }) s
  | .crc len stored (some low) => judgeFrame len stored low v s

/-- A character with its stop bit at space, ended before 24 bit times (R153). -/
def takeFramingError (s : State) : State :=
  match s.lnk.receiver with
  | .hunt => countLink (fun c => { c with noise := c.noise + 1 }) s
  | .length | .body .. | .crc .. => frameError .character s

/-! ### Replies -/

/-- What the owner of a command hands CMD: the result, the body, and what the reply's last byte brings (R160, R203). -/
structure Answer where
  result : Result
  body : List Byte
  effect : TxEffect
  deriving DecidableEq, Repr

/-- An answer with a body and no further effect. -/
def answer (r : Result) (body : List Byte) : Answer := ⟨r, body, .none⟩

/-- A reply's payload in the general reply form (R203). -/
def replyPayload (kind : Byte) (a : Answer) : List Byte := kind :: a.result.code :: a.body

/-- CMD places a reply at the end of the reply queue (R160). -/
def queueReply (r : Reply) (s : State) : State := mapLnk (fun l => { l with replies := l.replies ++ [r] }) s

/-- CMD queues the reply to a taken command, and the reply cache takes it (R159). -/
def answerTaken (kind seq : Byte) (crc : BitVec 16) (a : Answer) (s : State) : State :=
  mapLnk (fun l => { l with cache := some ⟨seq, crc, replyPayload kind a⟩ })
    (queueReply ⟨seq, replyPayload kind a, a.effect⟩ s)

/-- A command that takes time ends: its reply is queued, or discarded after a link reset, and CMD is IDLE (R157, R165). -/
def finishTaken (c : Taken) (a : Answer) (s : State) : State :=
  let s := { s with cmd := .idle }
  if c.discard then s else answerTaken c.kind c.seq c.crc a s

/-! ### Report acknowledgement, replay and break handling -/

/-- Every sent-unacknowledged entry returned to pending (R178). -/
def replayEntries (s : State) : State :=
  { s with rpt := { s.rpt with queue := s.rpt.queue.map fun e => { e with sent := false } } }

/-- RPT's break handling: entries returned to pending, W set to 0 (R179). -/
def breakReports (s : State) : State :=
  let s := replayEntries s
  { s with rpt := { s.rpt with window := 0 } }

/-- The entries from the queue's front through the one with a number (R177). -/
def through (n : BitVec 16) : List ReportEntry → List ReportEntry
  | [] => []
  | e :: es => if e.number = n then [e] else e :: through n es

/-! ### Resets -/

/-- The part reset of RESET_PART: every block at its pin-reset values but the link rate; the frame in transmission, if the
reset falls within a link reset, is left to its last byte (R148, R149, R169). What lies outside the part stays: the input
pins, a break in progress, the time base and the waiting commands. -/
def partReset (s : State) : State :=
  { s with
    lcu := .reset
    mot := .reset (s.pins.encA, s.pins.encB) s.now
    det := Quad.same .reset
    requests := []
    trk := .reset
    out := Oct.same .reset
    lnk := { Lnk.reset s.lnk.rate with sending := s.lnk.sending, broken := s.lnk.broken }
    cmd := .idle
    rpt := .reset }

/-- The rate code the straps name (Pin summary, R150). -/
def strapRate (rate1 rate0 : Bool) : RateCode :=
  match rate1, rate0 with
  | false, false => 0
  | false, true => 1
  | true, false => 2
  | true, true => 3

/-- Pin reset: as the part reset, with the strap rate and nothing in transmission (R149, R169). -/
def pinResetPart (rate1 rate0 : Bool) (s : State) : State :=
  let s := partReset s
  { s with lnk := .reset (strapRate rate1 rate0) }

/-- Whether a RESET_PART reply stands in the reply queue (R149). -/
def Lnk.resetReplyQueued (l : Lnk) : Bool := l.replies.any fun r => r.effect == .partReset

/-- A command in execution with its reply marked to be discarded (R165, step 7). -/
def Cmd.discarded : Cmd → Cmd
  | .advancing c since remaining made ticks => .advancing { c with discard := true } since remaining made ticks
  | .judging c left results => .judging { c with discard := true } left results
  | .idle => .idle
  | .closed => .closed

/-- A link reset: receiver to HUNT, queues, notice slot and cache emptied, hold cleared, a reply in execution to be discarded,
RPT's break handling, and the part reset if its reply was discarded (R165). -/
def linkReset (s : State) : State :=
  let resetDue := s.cmd == .closed && s.lnk.resetReplyQueued
  let s := mapLnk (fun l => { l with
    receiver := .hunt, broken := false, received := [], replies := [], notice := none, hold := false, cache := none }) s
  let s := breakReports { s with cmd := s.cmd.discarded }
  if resetDue then partReset s else s

/-! ### The transmitter -/

/-- The report RPT offers: the oldest pending entry, while the window has room (R176). -/
def Rpt.offered (r : Rpt) : Option ReportEntry :=
  if r.sentCount < r.window then r.queue.find? fun e => !e.sent else none

/-- The beginning of the offered report's transmission: sent-unacknowledged, once-sent (R176). -/
def Rpt.begun (r : Rpt) : Rpt :=
  { r with queue := modifyFirst (fun e => !e.sent) (fun e => { e with sent := true, onceSent := true }) r.queue }

/-- The arbiter's choice for an idle transmitter: the notice, the oldest reply, the offered report (R166). -/
def arbitrate (s : State) : State :=
  if s.lnk.sending.isSome then s
  else
    match s.lnk.notice, s.lnk.replies, s.rpt.offered with
    | some n, _, _ => mapLnk (fun l => { l with notice := none, sending := some ⟨0xE0, 0, n.payload, .none⟩ }) s
    | none, r :: rs, _ => mapLnk (fun l => { l with replies := rs, sending := some ⟨0x80, r.seq, r.payload, r.effect⟩ }) s
    | none, [], some e =>
      { mapLnk (fun l => { l with sending := some ⟨e.body.kindCode, 0, e.payload, .none⟩ }) s with rpt := s.rpt.begun }
    | none, [], none => s

/-- What the last byte of a frame brings: a new rate with the receiver back in HUNT (R151), or the part reset (R148). -/
def transmitEffect : TxEffect → State → State
  | .none, s => s
  | .setRate c, s => mapLnk (fun l => { l with rate := c, receiver := .hunt }) s
  | .partReset, s => partReset s

/-- The last byte of the frame in transmission has been sent (R166). -/
def endTransmission (s : State) : State :=
  match s.lnk.sending with
  | none => s
  | some t => transmitEffect t.effect (mapLnk (fun l => { l with sending := none }) s)

end Sys2Proof.Machine
end

