-- ==== Sys2Proof/Machine/LineCommands.lean ====
section
/-! DEFINITION. Machine/LineCommands.lean: the line commands at LCU, and RESET_PART (R132 to R141, R148). -/

namespace Sys2Proof.Machine

open Sys2Proof

/-- The body of a line command's reply: the line state at the end of the event, the items purged, the validation (R140, R203). -/
def lineBody (s : State) (purged : Nat) (v : Option Violation) : List Byte :=
  s.lcu.line.code :: byteOf purged :: validationBytes v

/-- A line command answered, its reply reporting the line state the event leaves (R140). -/
def lineAnswer (r : Result) (purged : Nat) (v : Option Violation) (s : State) : State × Answer :=
  (s, answer r (lineBody s purged v))

/-- Whether a station acts on a lane's items (R54). -/
def StationConfig.serves (c : StationConfig) (n : LaneId) : Bool := c.kind != .off && c.lane == n

/-- START's two checks of the active copy, in order (R132). -/
def startCheck (c : Configuration) : Option Violation :=
  if allLanes.all fun n => !(c.lanes.get n).enabled then some ⟨.noEnabledLane, .lane, 0⟩
  else
    (allLanes.find? fun n => (c.lanes.get n).enabled && allEight.all fun st => !(c.stations.get st).serves n).map
      fun n => ⟨.laneNoStation, .lane, n.val⟩

/-- START (R132). -/
def commandStart (s : State) : State × Answer :=
  if s.lcu.line ≠ .setup then lineAnswer .wrongState 0 none s
  else
    match startCheck s.lcu.active with
    | some v => lineAnswer .invalidConfig 0 (some v) s
    | none =>
      let s := setLine .run s
      let s := { s with trk := { s.trk with patterns := Oct.same 0 } }
      lineAnswer .ok 0 none (setDebt 0 s)

/-- STOP (R133). -/
def commandStop (s : State) : State × Answer :=
  match s.lcu.line with
  | .run => lineAnswer .ok 0 none (setLine (if s.trk.table.isEmpty then .setup else .draining) s)
  | .draining => lineAnswer .already 0 none s
  | .halted => lineAnswer .ok 0 none (setLine .setup s)
  | .setup => lineAnswer .wrongState 0 none s

/-- HALT (R135). -/
def commandHalt (s : State) : State × Answer :=
  match s.lcu.line with
  | .run | .draining => lineAnswer .ok (s.purgeCount none) none (haltLine .halt s)
  | .setup | .halted => lineAnswer .wrongState 0 none s

/-- ABORT (R136). -/
def commandAbort (s : State) : State × Answer :=
  match s.lcu.line with
  | .setup => lineAnswer .already 0 none s
  | .run | .draining | .halted =>
    lineAnswer .ok (s.purgeCount none) none (purgeItems .abort none (setLine .setup s))

/-- RESUME (R137). -/
def commandResume (s : State) : State × Answer :=
  match s.lcu.line with
  | .halted => lineAnswer .ok 0 none (setDebt 0 (setLine .run s))
  | .setup | .run | .draining => lineAnswer .wrongState 0 none s

/-- PURGE: the scope is checked before the line state (R138). -/
def commandPurge (p : List Byte) (s : State) : State × Answer :=
  match scopeOf (byteAt p 0) with
  | none => lineAnswer .badArgument 0 none s
  | some scope =>
    match s.lcu.line with
    | .run | .draining => lineAnswer .ok (s.purgeCount scope) none (purgeItems .purge scope s)
    | .setup | .halted => lineAnswer .wrongState 0 none s

/-- RESET_PART: the OK reply is queued and CMD takes nothing further; the reset follows that reply (R148). -/
def commandResetPart (s : State) : State × Answer :=
  ({ s with cmd := .closed }, ⟨.ok, [], .partReset⟩)

end Sys2Proof.Machine
end

