-- ==== Sys2Proof/Machine/ConfigCommands.lean ====
section
/-! DEFINITION. Machine/ConfigCommands.lean: the configuration commands at LCU: SET, REVERT, READ_CONFIG and APPLY (R142 to
R147). -/

namespace Sys2Proof.Machine

open Sys2Proof

/-- The staged copy changed. -/
def mapStaged (f : Configuration → Configuration) (s : State) : State :=
  { s with lcu := { s.lcu with staged := f s.lcu.staged } }

/-- A SET: a whole object written into the staged copy, or BAD_ARGUMENT and nothing written (R143). -/
def stage (c : Option (Configuration → Configuration)) (s : State) : State × Answer :=
  match c with
  | some f => (mapStaged f s, answer .ok [])
  | none => (s, answer .badArgument [])

/-- SET_MOTION (R100, R143). -/
def commandSetMotion (p : List Byte) (s : State) : State × Answer :=
  stage ((readMotion p 0).map fun m c => { c with motion := m }) s

/-- SET_LANE n (R115, R143). -/
def commandSetLane (p : List Byte) (s : State) : State × Answer :=
  stage ((finOf 4 (byteAt p 0)).bind fun n => (readLane p 1).map fun l c => { c with lanes := c.lanes.set n l }) s

/-- SET_STATION n (R55, R143). -/
def commandSetStation (p : List Byte) (s : State) : State × Answer :=
  stage ((finOf 8 (byteAt p 0)).bind fun n =>
    (readStation p 1).map fun x c => { c with stations := c.stations.set n x }) s

/-- SET_OUTPUT n (R74, R143). -/
def commandSetOutput (p : List Byte) (s : State) : State × Answer :=
  stage ((finOf 8 (byteAt p 0)).bind fun n =>
    (readOutput p 1).map fun o c => { c with outputs := c.outputs.set n o }) s

/-- SET_REPORTING (R142, R143). -/
def commandSetReporting (p : List Byte) (s : State) : State × Answer :=
  stage (some fun c => { c with statusMask := readReporting p 0 }) s

/-- REVERT: the active copy into the staged copy (R144). -/
def commandRevert (s : State) : State × Answer :=
  (mapStaged (fun _ => s.lcu.active) s, answer .ok [])

/-- The bytes of one object of a copy, by object kind code and index; none outside their ranges (R144, R202). -/
def objectBytes (c : Configuration) (kind index : Byte) : Option (List Byte) :=
  if kind = 0 then if index = 0 then some (motionBytes c.motion) else none
  else if kind = 1 then (finOf 4 index).map fun n => laneBytes (c.lanes.get n)
  else if kind = 2 then (finOf 8 index).map fun n => stationBytes (c.stations.get n)
  else if kind = 3 then (finOf 8 index).map fun n => outputBytes (c.outputs.get n)
  else if kind = 4 then if index = 0 then some (reportingBytes c.statusMask) else none
  else none

/-- The copy a copy code names (R144, R200). -/
def copyOf (s : State) (copy : Byte) : Option Configuration :=
  if copy = 0 then some s.lcu.staged else if copy = 1 then some s.lcu.active else none

/-- READ_CONFIG (R144). -/
def commandReadConfig (p : List Byte) (s : State) : State × Answer :=
  match (copyOf s (byteAt p 0)).bind fun c => objectBytes c (byteAt p 1) (byteAt p 2) with
  | some bytes => (s, answer .ok (byteAt p 0 :: byteAt p 1 :: byteAt p 2 :: bytes))
  | none => (s, answer .badArgument [])

/-! ### APPLY's validation -/

/-- A condition that is a violation when it holds. -/
def violationIf (b : Bool) (v : Violation) : Option Violation := if b then some v else none

/-- A lane object with its live fields set to another's (R145). -/
def LaneConfig.withLiveOf (a b : LaneConfig) : LaneConfig :=
  { a with defaultClass := b.defaultClass, announce := b.announce }

/-- A station object with its live fields set to another's (R70, R145). -/
def StationConfig.withLiveOf (a b : StationConfig) : StationConfig :=
  { a with actionSet := b.actionSet, patternLength := b.patternLength, patternMask := b.patternMask }

/-- An output object with its live field set to another's (R74, R145). -/
def OutputConfig.withLiveOf (a b : OutputConfig) : OutputConfig := { a with enabled := b.enabled }

/-- Step 1, the live check: the first object in which a field that is not live differs (R145). -/
def liveCheck (staged active : Configuration) : Option Violation :=
  ([violationIf (staged.motion != active.motion) ⟨.notLive, .motion, 0⟩]
    ++ allLanes.map (fun n => violationIf
        ((staged.lanes.get n).withLiveOf (active.lanes.get n) != active.lanes.get n) ⟨.notLive, .lane, n.val⟩)
    ++ allEight.map (fun n => violationIf
        ((staged.stations.get n).withLiveOf (active.stations.get n) != active.stations.get n) ⟨.notLive, .station, n.val⟩)
    ++ allEight.map (fun n => violationIf
        ((staged.outputs.get n).withLiveOf (active.outputs.get n) != active.outputs.get n) ⟨.notLive, .output, n.val⟩)).findSome? id

/-- A lane's conditions, in order (R116). -/
def laneViolations (c : Configuration) (n : LaneId) : List (Option Violation) :=
  let l := c.lanes.get n
  [violationIf (l.mode == .leading && l.minLength != 0) ⟨.minInLeading, .lane, n.val⟩,
   violationIf (l.maxLength != 0 && decide (l.maxLength < l.minLength)) ⟨.lengthLimits, .lane, n.val⟩]

/-- Whether none of mask entries 0 to P - 1 is select (R56). -/
def StationConfig.patternEmpty (x : StationConfig) : Bool :=
  (List.range x.patternLength).all fun k => !x.patternMask.getLsbD k

/-- A station's conditions, in order; a station of kind OFF has none (R56). -/
def stationViolations (c : Configuration) (outs : Oct Output) (n : StationId) : List (Option Violation) :=
  let x := c.stations.get n
  let v (code : ViolationCode) : Violation := ⟨code, .station, n.val⟩
  if x.kind = .off then []
  else
    [violationIf (!(c.lanes.get x.lane).enabled) (v .stationLaneDisabled),
     violationIf (decide (x.offset + x.fireDelay < x.lead)) (v .leadRange),
     violationIf (x.kind == .capture && x.patternEmpty) (v .patternEmpty),
     violationIf (allEight.any fun m =>
       let y := c.stations.get m
       y.kind != .off && y.kind != x.kind && y.output == x.output) (v .outputMixed),
     violationIf ((outs.get x.output).state == .forced) (v .outputForced)]

/-- Step 2, the conditions: the first violation in object order (R145). -/
def conditionCheck (c : Configuration) (outs : Oct Output) : Option Violation :=
  ([violationIf (c.motion.source == .pace && c.motion.paceRate == 0) ⟨.paceRange, .motion, 0⟩]
    ++ allLanes.flatMap (laneViolations c)
    ++ allEight.flatMap (stationViolations c outs)).findSome? id

/-- APPLY's validation: the live check outside SETUP, then the conditions (R145). -/
def applyCheck (s : State) : Option Violation :=
  (if s.lcu.line = .setup then none else liveCheck s.lcu.staged s.lcu.active).or
    (conditionCheck s.lcu.staged s.out)

/-! ### APPLY's effects -/

/-- DET's action: lanes whose change re-initialises them (R128). -/
def applyLanes (old : Configuration) (s : State) : State :=
  allLanes.foldl (fun s n =>
    if reinitialises (old.lanes.get n) (s.laneConfig n) then reinitLane n s else s) s

/-- OUT's action at one output: a disable ends the pulse with truncation or releases FORCED, and a changed polarity re-drives
the line (R75, R90, R91). Where the same APPLY changes the recovery time, the recovery that the disable brings is the new copy's:
DESIGN CHOICE, the data book does not say which (notes/assumptions/26.md). -/
def applyOutput (old : Configuration) (s : State) (n : OutputId) : State :=
  let c := s.outputConfig n
  let s := mapOutput n (fun o => { o with level := levelFor c.polarity o.state }) s
  if (old.outputs.get n).enabled && !c.enabled then
    match (s.out.get n).state with
    | .active => endPulse n true s
    | .forced => restOutput n s
    | .idle | .recovery => s
  else s

/-- TRK's action: every pattern counter modulo its station's new P (R67). -/
def applyPatterns (s : State) : State :=
  { s with trk := { s.trk with
      patterns := Oct.ofFn fun n => s.trk.patterns.get n % (s.lcu.active.stations.get n).patternLength } }

/-- A successful APPLY: the staged copy becomes the active copy, and each block acts in the same event (R147). -/
def applyStaged (s : State) : State :=
  let old := s.lcu.active
  let s := { s with lcu := { s.lcu with active := s.lcu.staged } }
  let s := applyLanes old (applyMotion old.motion s)
  applyPatterns (allEight.foldl (applyOutput old) s)

/-- APPLY (R145, R146, R147). -/
def commandApply (s : State) : State × Answer :=
  match applyCheck s with
  | some v => (s, answer .invalidConfig (validationBytes (some v)))
  | none => (applyStaged s, answer .ok (validationBytes none))

end Sys2Proof.Machine
end

