-- ==== Sys2Proof/Machine/HostCommands.lean ====
section
/-! DEFINITION. Machine/HostCommands.lean: the other commands at their owners: LNK, RPT, CMD's counters, TRK's inspection, OUT
and MOT (R94, R105, R151, R163, R167, R177, R178, R184, R189, R193, R194). -/

namespace Sys2Proof.Machine

open Sys2Proof

/-! ### LNK -/

/-- IDENTIFY (R167, R203). That the six characters VT4120 of the part code are sent in ASCII is PRESUMED: the data book names no
character code (notes/assumptions/25.md). -/
def commandIdentify (s : State) : State × Answer :=
  (s, answer .ok ([0x56, 0x54, 0x34, 0x31, 0x32, 0x30] ++
    [byteOf Config.revision, byteOf Config.tableCapacity, 4, 8, 8, byteOf Config.reportCapacity, byteOf s.lnk.rate.val]))

/-- SET_LINK: the rate changes at the last byte of the reply (R151). -/
def commandSetLink (p : List Byte) (s : State) : State × Answer :=
  match finOf 4 (byteAt p 0) with
  | none => (s, answer .badArgument [])
  | some c => (s, ⟨.ok, [byteAt p 0], .setRate c⟩)

/-- LINK_RESUME (R163). -/
def commandLinkResume (s : State) : State × Answer :=
  (mapLnk (fun l => { l with hold := false }) s,
    answer .ok (boolByte s.lnk.hold :: lastTakenBytes s.lnk.lastTaken ++ littleEndian 2 s.lnk.discards))

/-! ### RPT -/

/-- The entry REPORT_ACK may name: sent-unacknowledged, with this number (R177). -/
def Rpt.acknowledgeable (r : Rpt) (n : BitVec 16) : Bool := r.queue.any fun e => e.sent && e.number == n

/-- The entries an acknowledgement removes (R177). -/
def Rpt.removedBy (r : Rpt) (n : BitVec 16) : List ReportEntry :=
  if r.acknowledgeable n then through n r.queue else []

/-- A STATUS report that carried ENCODER_ERROR set (R183). -/
def ReportEntry.carriedEncoderError (e : ReportEntry) : Bool :=
  match e.body with
  | .status l _ => l.encoderError
  | _ => false

/-- The sticky clearing of a STATUS report's removal (R183, R112). -/
def clearEncoderError (s : State) : State :=
  if s.mot.encoderError then passStatus (mapMot (fun m => { m with encoderError := false }) s) else s

/-- A taken REPORT_ACK: entries removed, W set, and the status steps the removal calls for (R177, R183). -/
def acknowledge (n : BitVec 16) (w : Nat) (s : State) : State :=
  let removed := s.rpt.removedBy n
  let s := { s with rpt := { s.rpt with
    queue := s.rpt.queue.drop removed.length, lastAcknowledged := n, window := w } }
  let s := if removed.isEmpty then s else passStatus s
  if removed.any (·.carriedEncoderError) then clearEncoderError s else s

/-- REPORT_ACK (R177). -/
def commandReportAck (p : List Byte) (s : State) : State × Answer :=
  let n := BitVec.ofNat 16 (num16 p 0)
  let w := num8 p 2
  if 32 < w then (s, answer .badArgument [])
  else if s.rpt.acknowledgeable n || n == s.rpt.lastAcknowledged then
    (acknowledge n w s,
      answer .ok (byteOf (s.rpt.removedBy n).length :: littleEndian 2 n.toNat ++ [byteOf w]))
  else (s, answer .badArgument [])

/-- REPLAY (R178). -/
def commandReplay (s : State) : State × Answer :=
  (replayEntries s, answer .ok [byteOf s.rpt.sentCount])

/-- GET_STATUS (R184). -/
def commandGetStatus (s : State) : State × Answer :=
  (s, answer .ok (s.liveStatus.block ++ positionBytes s.mot.position
    ++ [byteOf s.trk.table.length, byteOf s.rpt.queue.length, byteOf s.rpt.pendingCount, byteOf s.rpt.sentCount,
        byteOf s.rpt.window]
    ++ littleEndian 2 s.rpt.lastAcknowledged.toNat ++ littleEndian 2 s.rpt.nextNumber.toNat
    ++ [byteOf s.rpt.lost, boolByte s.lnk.hold]))

/-! ### Counters (R188 to R190) -/

/-- A counter group (R188). -/
inductive CounterGroup where
  | lane (n : LaneId)
  | station (n : StationId)
  | output (n : OutputId)
  | motion | link | reports
  deriving DecidableEq, Repr

/-- The group a kind code and an index name (R189, R200). -/
def groupOf (kind index : Byte) : Option CounterGroup :=
  if kind = 0 then (finOf 4 index).map .lane
  else if kind = 1 then (finOf 8 index).map .station
  else if kind = 2 then (finOf 8 index).map .output
  else if kind = 3 then if index = 0 then some .motion else none
  else if kind = 4 then if index = 0 then some .link else none
  else if kind = 5 then if index = 0 then some .reports else none
  else none

/-- The members of a group, in reply order (R188). -/
def State.counters (s : State) : CounterGroup → List Counter
  | .lane n =>
    let t := s.trk.lanes.get n
    let d := s.det.get n
    [t.created, t.ignored, t.lost, d.suppressed, d.runt, d.overlong, t.defaulted, t.late]
  | .station n =>
    let c := s.trk.stations.get n
    [c.fired, c.passed, c.missed, c.skipped]
  | .output n =>
    let o := s.out.get n
    [o.started, o.merged, o.busyMisses, o.truncated]
  | .motion => [s.mot.illegal]
  | .link =>
    let c := s.lnk.counters
    [c.goodFrames, c.noise, c.crc, c.truncated, c.length, c.character, c.overrun, c.heldDiscards, c.duplicates, c.breaks]
  | .reports => [s.rpt.lostEvents, s.rpt.suppressedFaults]

/-- Every member of a group set to 0 (R189, R190). -/
def clearCounters (g : CounterGroup) (s : State) : State :=
  match g with
  | .lane n =>
    mapLane n (fun l => { l with suppressed := 0, runt := 0, overlong := 0 }) (countLane n (fun _ => ⟨0, 0, 0, 0, 0⟩) s)
  | .station n => { s with trk := { s.trk with stations := s.trk.stations.set n ⟨0, 0, 0, 0⟩ } }
  | .output n => mapOutput n (fun o => { o with started := 0, merged := 0, busyMisses := 0, truncated := 0 }) s
  | .motion => mapMot (fun m => { m with illegal := 0 }) s
  | .link => countLink (fun _ => ⟨0, 0, 0, 0, 0, 0, 0, 0, 0, 0⟩) s
  | .reports => { s with rpt := { s.rpt with lostEvents := 0, suppressedFaults := 0 } }

/-- GET_COUNTERS (R189). -/
def commandGetCounters (p : List Byte) (s : State) : State × Answer :=
  match groupOf (byteAt p 0) (byteAt p 1), truthOf (byteAt p 2) with
  | some g, some clear =>
    (if clear then clearCounters g s else s,
      answer .ok (byteAt p 0 :: byteAt p 1 :: byteAt p 2 ::
        (s.counters g).flatMap fun c => littleEndian 4 c.toNat))
  | _, _ => (s, answer .badArgument [])

/-! ### Inspection of the table (R193, R194) -/

/-- READ_ITEM (R193). -/
def commandReadItem (p : List Byte) (s : State) : State × Answer :=
  let t : Tag := BitVec.ofNat 16 (num16 p 0)
  if t = 0 then (s, answer .badArgument [])
  else
    match s.trk.table.zipIdx.find? fun x => x.1.tag == t with
    | none => (s, answer .notFound [])
    | some (i, index) => (s, answer .ok (i.recordBytes s.lcu.active.stations index))

/-- The items of a scope from an index upward, each with its index (R194). -/
def State.listed (s : State) (scope : Option LaneId) (k : Nat) : List (Item × Nat) :=
  (s.trk.table.zipIdx.drop k).filter fun x => inScope scope x.1

/-- LIST_ITEMS: up to 16 summaries (R194). -/
def commandListItems (p : List Byte) (s : State) : State × Answer :=
  match scopeOf (byteAt p 0), inRange 0 127 (num8 p 1) with
  | some scope, some k =>
    let found := s.listed scope k
    let summaries := found.take 16
    (s, answer .ok (byteOf s.trk.table.length :: byteOf summaries.length :: boolByte (decide (16 < found.length)) ::
      summaries.flatMap fun x => x.1.summaryBytes x.2))
  | _, _ => (s, answer .badArgument [])

/-! ### OUT (R94) -/

/-- FORCE_OUTPUT's actions (R94, R200). -/
inductive ForceAction where
  | off | on
  | pulse (micros : Nat)
  deriving DecidableEq, Repr

/-- The action a payload gives: the duration is read for PULSE only, where 0 is out of range (R94, R200). -/
def forceActionOf (code : Byte) (duration : Nat) : Option ForceAction :=
  if code = 0 then some .off else if code = 1 then some .on
  else if code = 2 then if duration = 0 then none else some (.pulse duration)
  else none

/-- Whether a station of kind CAPTURE or ACTUATE in the active copy names an output (R94). -/
def State.outputNamed (s : State) (n : OutputId) : Bool :=
  allEight.any fun st =>
    (s.lcu.active.stations.get st).kind != .off && (s.lcu.active.stations.get st).output == n

/-- A forced pulse: an end time, no end position, nothing attached, no start notice (R94). -/
def beginForcedPulse (n : OutputId) (d : Nat) (s : State) : State :=
  beginPulse n ⟨none, some (s.now + d), []⟩ s

/-- The output enters FORCED with its line active (R94). -/
def enterForced (n : OutputId) (s : State) : State :=
  mapOutput n (fun o => { o with state := .forced, level := levelFor (s.outputConfig n).polarity .forced }) s

/-- An action judged by the output's state (R94, step 4). -/
def forceByState (n : OutputId) (a : ForceAction) (s : State) : State × Result :=
  match a, (s.out.get n).state with
  | .on, .idle => (enterForced n s, .ok)
  | .on, .forced => (s, .ok)
  | .on, .active | .on, .recovery => (s, .busy)
  | .off, .idle | .off, .recovery => (s, .ok)
  | .off, .forced => (restOutput n s, .ok)
  | .off, .active => (s, .busy)
  | .pulse d, .idle | .pulse d, .forced => (beginForcedPulse n d s, .ok)
  | .pulse _, .active | .pulse _, .recovery => (s, .busy)

/-- FORCE_OUTPUT (R94). -/
def commandForceOutput (p : List Byte) (s : State) : State × Answer :=
  match finOf 8 (byteAt p 0), forceActionOf (byteAt p 1) (num16 p 2) with
  | some n, some a =>
    if !(s.outputConfig n).enabled || s.outputNamed n then (s, answer .wrongState [])
    else ((forceByState n a s).1, answer (forceByState n a s).2 [])
  | _, _ => (s, answer .badArgument [])

/-! ### Commands that take time -/

/-- ADVANCE refused, with the result (R105). -/
def advanceRefusal (p : List Byte) (s : State) : Option Result :=
  if num16 p 0 = 0 then some .badArgument
  else if s.lcu.active.motion.source ≠ .hostStep then some .wrongState
  else none

/-- The reply that ends an ADVANCE (R106). -/
def advanceAnswer (ticks : Nat) (s : State) : Answer :=
  answer .ok (positionBytes s.mot.position ++ littleEndian 2 ticks)

/-- The pairs of a VERDICT payload (R200). -/
def pairsOf : List Byte → List (Tag × Byte)
  | low :: high :: c :: rest => (high ++ low, c) :: pairsOf rest
  | _ => []

/-- The reply that ends a VERDICT (R34, R203). -/
def verdictAnswer (results : List Result) : Answer :=
  answer .ok (byteOf results.length :: results.map (·.code))

end Sys2Proof.Machine
end

