-- ==== Sys2Proof/Machine/CommandUnit.lean ====
section
/-! DEFINITION. Machine/CommandUnit.lean: the Command Unit: the command kinds, the judgement of a taken frame, and what follows
every event (R157 to R162, R198, R200). -/

namespace Sys2Proof.Machine

open Sys2Proof

/-- The command kinds (R198). -/
inductive Kind where
  | identify | setLink | linkResume | getStatus | getCounters | reportAck | replay
  | start | stop | halt | abort | resume | purge | resetPart
  | setMotion | setLane | setStation | setOutput | setReporting | revert | readConfig | apply
  | verdict | readItem | listItems | forceOutput | advance
  deriving DecidableEq, Repr

/-- The kind codes (R198). -/
def Kind.code : Kind → Byte
  | .identify => 0x01
  | .setLink => 0x02
  | .linkResume => 0x03
  | .getStatus => 0x04
  | .getCounters => 0x05
  | .reportAck => 0x06
  | .replay => 0x07
  | .start => 0x10
  | .stop => 0x11
  | .halt => 0x12
  | .abort => 0x13
  | .resume => 0x14
  | .purge => 0x15
  | .resetPart => 0x16
  | .setMotion => 0x18
  | .setLane => 0x19
  | .setStation => 0x1A
  | .setOutput => 0x1B
  | .setReporting => 0x1C
  | .revert => 0x1D
  | .readConfig => 0x1E
  | .apply => 0x1F
  | .verdict => 0x20
  | .readItem => 0x21
  | .listItems => 0x22
  | .forceOutput => 0x28
  | .advance => 0x29

/-- Every command kind. -/
def allKinds : List Kind :=
  [.identify, .setLink, .linkResume, .getStatus, .getCounters, .reportAck, .replay, .start, .stop, .halt, .abort,
   .resume, .purge, .resetPart, .setMotion, .setLane, .setStation, .setOutput, .setReporting, .revert, .readConfig,
   .apply, .verdict, .readItem, .listItems, .forceOutput, .advance]

/-- The command kind of a KIND byte, if it is one (R198). -/
def kindOf (b : Byte) : Option Kind := allKinds.find? fun k => k.code == b

/-- Whether a kind admits a payload length (R200). -/
def Kind.admits (k : Kind) (n : Nat) : Bool :=
  match k with
  | .identify | .linkResume | .getStatus | .replay | .start | .stop | .halt | .abort | .resume | .resetPart
  | .revert | .apply => n == 0
  | .setLink | .purge => n == 1
  | .setReporting | .readItem | .listItems | .advance => n == 2
  | .getCounters | .reportAck | .readConfig => n == 3
  | .forceOutput => n == 4
  | .setOutput => n == 8
  | .setMotion => n == 10
  | .setLane => n == 16
  | .setStation => n == 20
  | .verdict => n % 3 == 0 && decide (3 ≤ n) && decide (n ≤ 96)

/-- A command that its owner completes in its taking event (R157): the state it leaves and the answer. The two that take time
are not completed here, and a LINK_RESUME is no taken command (R158). -/
def instantCommand (k : Kind) (p : List Byte) (s : State) : Option (State × Answer) :=
  match k with
  | .identify => some (commandIdentify s)
  | .setLink => some (commandSetLink p s)
  | .linkResume => some (commandLinkResume s)
  | .getStatus => some (commandGetStatus s)
  | .getCounters => some (commandGetCounters p s)
  | .reportAck => some (commandReportAck p s)
  | .replay => some (commandReplay s)
  | .start => some (commandStart s)
  | .stop => some (commandStop s)
  | .halt => some (commandHalt s)
  | .abort => some (commandAbort s)
  | .resume => some (commandResume s)
  | .purge => some (commandPurge p s)
  | .resetPart => some (commandResetPart s)
  | .setMotion => some (commandSetMotion p s)
  | .setLane => some (commandSetLane p s)
  | .setStation => some (commandSetStation p s)
  | .setOutput => some (commandSetOutput p s)
  | .setReporting => some (commandSetReporting p s)
  | .revert => some (commandRevert s)
  | .readConfig => some (commandReadConfig p s)
  | .apply => some (commandApply s)
  | .readItem => some (commandReadItem p s)
  | .listItems => some (commandListItems p s)
  | .forceOutput => some (commandForceOutput p s)
  | .advance => (advanceRefusal p s).map fun r => (s, answer r [])
  | .verdict => none

/-- A command that takes time begins: CMD is EXECUTING (R34, R106, R157). -/
def beginCommand (k : Kind) (f : Frame) (s : State) : State :=
  match k with
  | .verdict => { s with cmd := .judging ⟨f.kind, f.seq, f.crc, false⟩ (pairsOf f.payload) [] }
  | _ => { s with cmd := .advancing ⟨f.kind, f.seq, f.crc, false⟩ s.now (num16 f.payload 0) 0 0 }

/-- Step 6: the command is executed by its owner and answered, or begins (R158, R160). -/
def executeCommand (k : Kind) (f : Frame) (s : State) : State :=
  match instantCommand k f.payload s with
  | some (s', a) => answerTaken f.kind f.seq f.crc a s'
  | none => beginCommand k f s

/-- A taken command, steps 4 to 6: its SEQ is the last taken; BAD_KIND, BAD_LENGTH, or execution (R158). -/
def takeCommand (f : Frame) (s : State) : State :=
  let s := mapLnk (fun l => { l with lastTaken := some f.seq }) s
  match kindOf f.kind with
  | none => answerTaken f.kind f.seq f.crc (answer .badKind []) s
  | some k =>
    if k.admits f.payload.length then executeCommand k f s
    else answerTaken f.kind f.seq f.crc (answer .badLength []) s

/-- A reply outside the cache: HELD, and those of LINK_RESUME (R158, R162). -/
def answerUntaken (f : Frame) (a : Answer) (s : State) : State :=
  queueReply ⟨f.seq, replyPayload f.kind a, a.effect⟩ s

/-- A frame answered HELD, and counted (R162). -/
def answerHeld (f : Frame) (s : State) : State :=
  let s := countLink (fun c => { c with heldDiscards := c.heldDiscards + 1 })
    (mapLnk (fun l => { l with discards := min 65535 (l.discards + 1) }) s)
  answerUntaken f (answer .held []) s

/-- Step 2, LINK_RESUME (R158, R163). -/
def takeLinkResume (f : Frame) (s : State) : State :=
  if f.payload.length = 0 then answerUntaken f (commandLinkResume s).2 (commandLinkResume s).1
  else answerUntaken f (answer .badLength []) s

/-- A duplicate: a copy of the cached reply, which brings nothing further (R159). -/
def answerDuplicate (e : CacheEntry) (s : State) : State :=
  queueReply ⟨e.seq, e.payload, .none⟩ (countLink (fun c => { c with duplicates := c.duplicates + 1 }) s)

/-- The cached command a frame repeats, by SEQ and CRC (R158, step 3). -/
def Lnk.duplicateOf (l : Lnk) (f : Frame) : Option CacheEntry :=
  l.cache.filter fun e => e.seq == f.seq && e.crc == f.crc

/-- CMD judges a taken frame in the order of R158. -/
def judgeTaken (f : Frame) (s : State) : State :=
  if s.lnk.hold && f.kind != Kind.linkResume.code then answerHeld f s
  else if f.kind = Kind.linkResume.code then takeLinkResume f s
  else
    match s.lnk.duplicateOf f with
    | some e => answerDuplicate e s
    | none => takeCommand f s

/-! ### What follows an event -/

/-- The end of one event: the latch compares if it is called for (R182), an idle transmitter begins what is available (R166),
and ATTN follows its conditions (R185). -/
def endEvent (s : State) : State :=
  let s := arbitrate (latch s)
  { s with rpt := { s.rpt with attention := s.attentionDue } }

/-- CMD takes frames, each an event of its own, while it is IDLE, a frame waits and the reply queue has room, at most so many
(R157). -/
def takeFrames : Nat → State → State
  | 0, s => s
  | k + 1, s =>
    match s.cmd, s.lnk.received with
    | .idle, f :: fs =>
      if s.lnk.replies.length < Config.linkQueueCapacity then
        takeFrames k (endEvent (judgeTaken f (mapLnk (fun l => { l with received := fs }) s)))
      else s
    | _, _ => s

/-- An event at a block has been handled: it ends, and CMD takes every frame it now can (R157, R166, R182). -/
def settle (s : State) : State :=
  let s := endEvent s
  takeFrames s.lnk.received.length s

/-- A good frame from the host, of this KIND, SEQ and payload, reaches the receive queue (R156). -/
def receiveFrame (kind seq : Byte) (payload : List Byte) (s : State) : State :=
  settle (offerFrame ⟨kind, seq, payload, frameCrc kind seq payload⟩ s)

end Sys2Proof.Machine
end

