-- ==== Sys2Proof/Machine/FrameRows.lean ====
section
/-! DEFINITION. Machine/FrameRows.lean: the rows that are a good frame from the host: each reaches the receive queue, and CMD
takes it as soon as it can (R156, R157, R158; notes/assumptions/5.md). -/

namespace Sys2Proof.Machine

open Sys2Proof

/-- A machine that never stops: the next state of an event. -/
abbrev Next := Host.Outcome State Fault Refusal

/-- The row IDENTIFY (R167). -/
def execIdentify (seq : Byte) (payload : List Byte) (s : State) : Next :=
  .next (receiveFrame 0x01 seq payload s)

/-- The row SET_LINK (R151). -/
def execSetLink (seq : Byte) (payload : List Byte) (s : State) : Next :=
  .next (receiveFrame 0x02 seq payload s)

/-- The row LINK_RESUME (R163). -/
def execLinkResume (seq : Byte) (payload : List Byte) (s : State) : Next :=
  .next (receiveFrame 0x03 seq payload s)

/-- The row GET_STATUS (R184). -/
def execGetStatus (seq : Byte) (payload : List Byte) (s : State) : Next :=
  .next (receiveFrame 0x04 seq payload s)

/-- The row GET_COUNTERS (R189). -/
def execGetCounters (seq : Byte) (payload : List Byte) (s : State) : Next :=
  .next (receiveFrame 0x05 seq payload s)

/-- The row REPORT_ACK (R177). -/
def execReportAck (seq : Byte) (payload : List Byte) (s : State) : Next :=
  .next (receiveFrame 0x06 seq payload s)

/-- The row REPLAY (R178). -/
def execReplay (seq : Byte) (payload : List Byte) (s : State) : Next :=
  .next (receiveFrame 0x07 seq payload s)

/-- The row START (R132). -/
def execStart (seq : Byte) (payload : List Byte) (s : State) : Next :=
  .next (receiveFrame 0x10 seq payload s)

/-- The row STOP (R133). -/
def execStop (seq : Byte) (payload : List Byte) (s : State) : Next :=
  .next (receiveFrame 0x11 seq payload s)

/-- The row HALT (R135). -/
def execHalt (seq : Byte) (payload : List Byte) (s : State) : Next :=
  .next (receiveFrame 0x12 seq payload s)

/-- The row ABORT (R136). -/
def execAbort (seq : Byte) (payload : List Byte) (s : State) : Next :=
  .next (receiveFrame 0x13 seq payload s)

/-- The row RESUME (R137). -/
def execResume (seq : Byte) (payload : List Byte) (s : State) : Next :=
  .next (receiveFrame 0x14 seq payload s)

/-- The row PURGE (R138). -/
def execPurge (seq : Byte) (payload : List Byte) (s : State) : Next :=
  .next (receiveFrame 0x15 seq payload s)

/-- The row RESET_PART (R148). -/
def execResetPart (seq : Byte) (payload : List Byte) (s : State) : Next :=
  .next (receiveFrame 0x16 seq payload s)

/-- The row SET_MOTION (R100). -/
def execSetMotion (seq : Byte) (payload : List Byte) (s : State) : Next :=
  .next (receiveFrame 0x18 seq payload s)

/-- The row SET_LANE (R115). -/
def execSetLane (seq : Byte) (payload : List Byte) (s : State) : Next :=
  .next (receiveFrame 0x19 seq payload s)

/-- The row SET_STATION (R55). -/
def execSetStation (seq : Byte) (payload : List Byte) (s : State) : Next :=
  .next (receiveFrame 0x1A seq payload s)

/-- The row SET_OUTPUT (R74). -/
def execSetOutput (seq : Byte) (payload : List Byte) (s : State) : Next :=
  .next (receiveFrame 0x1B seq payload s)

/-- The row SET_REPORTING (R143). -/
def execSetReporting (seq : Byte) (payload : List Byte) (s : State) : Next :=
  .next (receiveFrame 0x1C seq payload s)

/-- The row REVERT (R144). -/
def execRevert (seq : Byte) (payload : List Byte) (s : State) : Next :=
  .next (receiveFrame 0x1D seq payload s)

/-- The row READ_CONFIG (R144). -/
def execReadConfig (seq : Byte) (payload : List Byte) (s : State) : Next :=
  .next (receiveFrame 0x1E seq payload s)

/-- The row APPLY (R145). -/
def execApply (seq : Byte) (payload : List Byte) (s : State) : Next :=
  .next (receiveFrame 0x1F seq payload s)

/-- The row VERDICT (R33). -/
def execVerdict (seq : Byte) (payload : List Byte) (s : State) : Next :=
  .next (receiveFrame 0x20 seq payload s)

/-- The row READ_ITEM (R193). -/
def execReadItem (seq : Byte) (payload : List Byte) (s : State) : Next :=
  .next (receiveFrame 0x21 seq payload s)

/-- The row LIST_ITEMS (R194). -/
def execListItems (seq : Byte) (payload : List Byte) (s : State) : Next :=
  .next (receiveFrame 0x22 seq payload s)

/-- The row ADVANCE (R105). -/
def execAdvance (seq : Byte) (payload : List Byte) (s : State) : Next :=
  .next (receiveFrame 0x29 seq payload s)

/-- The row FORCE_OUTPUT_ON: a FORCE_OUTPUT frame with action ON (R94, R200). -/
def execForceOutputOn (seq output : Byte) (rest : List Byte) (s : State) : Next :=
  .next (receiveFrame 0x28 seq (output :: 1 :: rest) s)

/-- The row FORCE_OUTPUT_OFF: a FORCE_OUTPUT frame with action OFF (R94, R200). -/
def execForceOutputOff (seq output : Byte) (rest : List Byte) (s : State) : Next :=
  .next (receiveFrame 0x28 seq (output :: 0 :: rest) s)

/-- The row FORCE_OUTPUT_PULSE: a FORCE_OUTPUT frame with action PULSE (R94, R200). -/
def execForceOutputPulse (seq output : Byte) (rest : List Byte) (s : State) : Next :=
  .next (receiveFrame 0x28 seq (output :: 2 :: rest) s)

/-- The row BAD_KIND: a frame of a KIND that is no command's (R158, R198). -/
def execBadKind (kind seq : Byte) (payload : List Byte) (s : State) : Next :=
  .next (receiveFrame kind seq payload s)

end Sys2Proof.Machine
end

