-- ==== Sys2Proof/Machine/EventRows.lean ====
section
/-! DEFINITION. Machine/EventRows.lean: the rows that are events at the part's blocks. An event that finds nothing to act on
(no timer running, no operation in execution, no request waiting) changes nothing at its block. -/

namespace Sys2Proof.Machine

open Sys2Proof

/-! ### CMD: the commands that take time -/

/-- A verdict event: the next pair of the VERDICT in execution is taken at TRK; after the last, CMD queues the reply (R34). -/
def takeNextPair (s : State) : State :=
  match s.cmd with
  | .judging c ((t, k) :: left) results =>
    let (s', r) := takePair t k s
    if left.isEmpty then finishTaken c (verdictAnswer (results ++ [r])) s'
    else { s' with cmd := .judging c left (results ++ [r]) }
  | _ => s

/-- The row VERDICT_PAIR (R34). -/
def execVerdictPair (s : State) : Next := .next (settle (takeNextPair s))

/-- The microsecond of the time base in which a count of an ADVANCE falls, by the microsecond at which the command was taken and the
counts made before: the first count at the taking, each following one 0.5 microseconds after the one before (R106). -/
def advanceTime (since made : Nat) : Nat := since + made / 2

/-- The next count of the ADVANCE in execution, at its time; the time base is carried forward to that time where it stands before it
(R106; notes/assumptions/3.md). -/
def makeAdvanceCount (o : TickOrder) (s : State) : State :=
  match s.cmd with
  | .advancing c since (remaining + 1) made ticks =>
    let ticks' := if s.mot.debt = 0 then ticks + 1 else ticks
    forwardCount o (reachTime (advanceTime since made) { s with cmd := .advancing c since remaining (made + 1) ticks' })
  | _ => s

/-- The row ADVANCE_COUNT (R106). -/
def execAdvanceCount (o : TickOrder) (s : State) : Next := .next (settle (makeAdvanceCount o s))

/-- After its last count an ADVANCE ends, and CMD queues the reply (R106). -/
def endAdvance (s : State) : State :=
  match s.cmd with
  | .advancing c _ 0 _ ticks => finishTaken c (advanceAnswer ticks s) s
  | _ => s

/-- The row ADVANCE_END (R106). -/
def execAdvanceEnd (s : State) : Next := .next (settle (endAdvance s))

/-! ### The pins and the link -/

/-- The row PIN_RESET (R149, R169). -/
def execPinReset (rate1 rate0 : Bool) (s : State) : Next := .next (settle (pinResetPart rate1 rate0 s))

/-- The row CHARACTER_RECEIVED: no character is taken during a break (R152, R153, R164). -/
def execCharacterReceived (v : Byte) (framingError : Bool) (s : State) : Next :=
  .next (settle (if s.lnk.broken then s else if framingError then takeFramingError s else takeCharacter v s))

/-- The gap timer runs in LENGTH, BODY and CRC; its expiry is a frame error, cause TRUNCATED (R155). -/
def gapExpiry (s : State) : State :=
  match s.lnk.receiver with
  | .hunt => s
  | .length | .body .. | .crc .. => if s.lnk.broken then s else frameError .truncated s

/-- The row GAP_TIMER_EXPIRY (R155). -/
def execGapTimerExpiry (s : State) : Next := .next (settle (gapExpiry s))

/-- The row BREAK_RECOGNISED: a frame being received is discarded, uncounted, and no character is taken until the line returns
to mark (R164). -/
def execBreakRecognised (s : State) : Next :=
  .next (settle (mapLnk (fun l => { l with receiver := .hunt, broken := true }) s))

/-- The row BREAK: the link reset, with BREAKS counted (R164, R165). -/
def execLinkBreak (s : State) : Next :=
  .next (settle (linkReset (countLink (fun c => { c with breaks := c.breaks + 1 }) s)))

/-- The row FRAME_TRANSMIT_END (R166). -/
def execFrameTransmitEnd (s : State) : Next := .next (settle (endTransmission s))

/-! ### MOT -/

/-- The row ENCODER_TRANSITION (R102, R103). -/
def execEncoderTransition (encA encB : Bool) (o : TickOrder) (s : State) : Next :=
  .next (settle (encoderSample (encA, encB) o s))

/-- The row PACE_COUNT (R104). -/
def execPaceCount (o : TickOrder) (s : State) : Next := .next (settle (paceOverflow o s))

/-- The standstill timer's expiry makes MOTION STOPPED and stops the timer (R111). -/
def standstillExpiry (s : State) : State :=
  match s.mot.standstill with
  | none => s
  | some t =>
    let s' := reachTime t (mapMot (fun m => { m with standstill := none, moving := false }) s)
    if s.mot.moving then passStatus s' else s'

/-- The row STANDSTILL_EXPIRY (R111). -/
def execStandstillExpiry (s : State) : Next := .next (settle (standstillExpiry s))

/-! ### DET and TRK -/

/-- The row DETECTOR_RAW_CHANGE (R117, R118). -/
def execDetectorRawChange (n : LaneId) (level : Bool) (s : State) : Next := .next (settle (sampleDetector n level s))

/-- The row DETECTOR_REVERT: a sample at the expected level (R117, R119). -/
def execDetectorRevert (n : LaneId) (s : State) : Next := .next (settle (sampleDetector n (s.expectedLevel n) s))

/-- The candidate's expiry: its edge is accepted (R119). -/
def debounceExpiry (n : LaneId) (s : State) : State :=
  match (s.det.get n).candidate with
  | none => s
  | some c => acceptEdge n c.edge (reachTime c.expiry s)

/-- The row DEBOUNCE_EXPIRY (R119). -/
def execDebounceExpiry (n : LaneId) (s : State) : Next := .next (settle (debounceExpiry n s))

/-- TRK takes the oldest creation request of a lane; requests of one lane reach it in the order in which DET sent them (R12,
R127). A request still in transit when an APPLY took its lane's stations away is kept: DESIGN CHOICE, in RUN it makes an item with
an empty outcome list, which retires at once (notes/assumptions/22.md). -/
def takeRequest (n : LaneId) (s : State) : State :=
  match s.requests.find? fun r => r.lane == n with
  | none => s
  | some r => takeCreation r { s with requests := s.requests.erase r }

/-- The row CREATION_REQUEST (R12). -/
def execCreationRequest (n : LaneId) (s : State) : Next := .next (settle (takeRequest n s))

/-! ### OUT -/

/-- The time base reaches an active pulse's end time (R84, R85). -/
def endTimeExpiry (n : OutputId) (s : State) : State :=
  match (s.out.get n).pulse.bind (·.endTime) with
  | none => s
  | some t => endIfMet n (reachTime t s)

/-- The row END_TIME_EXPIRY (R84). -/
def execEndTimeExpiry (n : OutputId) (s : State) : Next := .next (settle (endTimeExpiry n s))

/-- The max-on timer's expiry ends the pulse with truncation (R87). -/
def maxOnExpiry (n : OutputId) (s : State) : State :=
  match (s.out.get n).maxOn with
  | none => s
  | some t => endPulse n true (reachTime t s)

/-- The row MAX_ON_EXPIRY (R87). -/
def execMaxOnExpiry (n : OutputId) (s : State) : Next := .next (settle (maxOnExpiry n s))

/-- The recovery timer's expiry returns the output to IDLE (R86). -/
def recoveryExpiry (n : OutputId) (s : State) : State :=
  match (s.out.get n).recovery with
  | none => s
  | some t =>
    mapOutput n (fun o => { o with
      state := .idle, level := levelFor (s.outputConfig n).polarity .idle, recovery := none }) (reachTime t s)

/-- The row RECOVERY_EXPIRY (R86). -/
def execRecoveryExpiry (n : OutputId) (s : State) : Next := .next (settle (recoveryExpiry n s))

/-! ### No command waiting -/

/-- The block idles: one microsecond of the time base passes, and every timed event waits to be taken as its row
(notes/assumptions/3.md). -/
def idleMicrosecond (s : State) : State := { s with now := s.now + 1 }

end Sys2Proof.Machine
end

