-- ==== Sys2Proof/Machine/Dispatch.lean ====
section
/-! DEFINITION. Machine/Dispatch.lean: each command's meaning, one arm a row of the table. -/

namespace Sys2Proof.Machine

open Sys2Proof

def exec (i : Instr) (s : State) : Host.Outcome State Fault Refusal :=
  match i with
  | .identify seq payload => Sys2Proof.Machine.execIdentify seq payload s
  | .setLink seq payload => Sys2Proof.Machine.execSetLink seq payload s
  | .linkResume seq payload => Sys2Proof.Machine.execLinkResume seq payload s
  | .getStatus seq payload => Sys2Proof.Machine.execGetStatus seq payload s
  | .getCounters seq payload => Sys2Proof.Machine.execGetCounters seq payload s
  | .reportAck seq payload => Sys2Proof.Machine.execReportAck seq payload s
  | .replay seq payload => Sys2Proof.Machine.execReplay seq payload s
  | .start seq payload => Sys2Proof.Machine.execStart seq payload s
  | .stop seq payload => Sys2Proof.Machine.execStop seq payload s
  | .halt seq payload => Sys2Proof.Machine.execHalt seq payload s
  | .abort seq payload => Sys2Proof.Machine.execAbort seq payload s
  | .resume seq payload => Sys2Proof.Machine.execResume seq payload s
  | .purge seq payload => Sys2Proof.Machine.execPurge seq payload s
  | .resetPart seq payload => Sys2Proof.Machine.execResetPart seq payload s
  | .setMotion seq payload => Sys2Proof.Machine.execSetMotion seq payload s
  | .setLane seq payload => Sys2Proof.Machine.execSetLane seq payload s
  | .setStation seq payload => Sys2Proof.Machine.execSetStation seq payload s
  | .setOutput seq payload => Sys2Proof.Machine.execSetOutput seq payload s
  | .setReporting seq payload => Sys2Proof.Machine.execSetReporting seq payload s
  | .revert seq payload => Sys2Proof.Machine.execRevert seq payload s
  | .readConfig seq payload => Sys2Proof.Machine.execReadConfig seq payload s
  | .apply seq payload => Sys2Proof.Machine.execApply seq payload s
  | .verdict seq payload => Sys2Proof.Machine.execVerdict seq payload s
  | .verdictPair => Sys2Proof.Machine.execVerdictPair s
  | .readItem seq payload => Sys2Proof.Machine.execReadItem seq payload s
  | .listItems seq payload => Sys2Proof.Machine.execListItems seq payload s
  | .forceOutputOn seq output rest => Sys2Proof.Machine.execForceOutputOn seq output rest s
  | .forceOutputOff seq output rest => Sys2Proof.Machine.execForceOutputOff seq output rest s
  | .forceOutputPulse seq output rest => Sys2Proof.Machine.execForceOutputPulse seq output rest s
  | .advance seq payload => Sys2Proof.Machine.execAdvance seq payload s
  | .advanceCount order => Sys2Proof.Machine.execAdvanceCount order s
  | .advanceEnd => Sys2Proof.Machine.execAdvanceEnd s
  | .badKind kind seq payload => Sys2Proof.Machine.execBadKind kind seq payload s
  | .pinReset rate1 rate0 => Sys2Proof.Machine.execPinReset rate1 rate0 s
  | .characterReceived value framingError => Sys2Proof.Machine.execCharacterReceived value framingError s
  | .gapTimerExpiry => Sys2Proof.Machine.execGapTimerExpiry s
  | .breakRecognised => Sys2Proof.Machine.execBreakRecognised s
  | .linkBreak => Sys2Proof.Machine.execLinkBreak s
  | .frameTransmitEnd => Sys2Proof.Machine.execFrameTransmitEnd s
  | .encoderTransition encA encB order => Sys2Proof.Machine.execEncoderTransition encA encB order s
  | .paceCount order => Sys2Proof.Machine.execPaceCount order s
  | .standstillExpiry => Sys2Proof.Machine.execStandstillExpiry s
  | .detectorRawChange lane level => Sys2Proof.Machine.execDetectorRawChange lane level s
  | .detectorRevert lane => Sys2Proof.Machine.execDetectorRevert lane s
  | .debounceExpiry lane => Sys2Proof.Machine.execDebounceExpiry lane s
  | .creationRequest lane => Sys2Proof.Machine.execCreationRequest lane s
  | .endTimeExpiry output => Sys2Proof.Machine.execEndTimeExpiry output s
  | .maxOnExpiry output => Sys2Proof.Machine.execMaxOnExpiry output s
  | .recoveryExpiry output => Sys2Proof.Machine.execRecoveryExpiry output s

end Sys2Proof.Machine
end

