-- ==== Sys2Proof/WellFormed.lean ====
section
/-! DEFINITION. WellFormed.lean: the commands whose operands the link can carry and whose row they are. -/

namespace Sys2Proof

/-- A frame's payload holds 0-248 bytes (R196). -/
def payloadFits (n : Nat) : Bool := decide (n ≤ 248)

/-- The KIND bytes that are command kinds (R198). -/
def isCommandKind (k : Byte) : Bool :=
  [0x01, 0x02, 0x03, 0x04, 0x05, 0x06, 0x07, 0x10, 0x11, 0x12, 0x13, 0x14, 0x15, 0x16, 0x18, 0x19, 0x1A, 0x1B, 0x1C,
   0x1D, 0x1E, 0x1F, 0x20, 0x21, 0x22, 0x28, 0x29].contains k

/-- No output stands twice among these. -/
def noRepeats (ns : List OutputId) : Bool := decide ns.Nodup

/-- An order of a tick names no output twice. -/
def TickOrder.wellFormed (o : TickOrder) : Bool := noRepeats (o.before ++ o.after)

/-- A command the part can meet: a payload the link can carry, a BAD_KIND of no command kind, an order without repeats. -/
def Instr.wellFormed : Instr → Bool
  | .identify _ p | .setLink _ p | .linkResume _ p | .getStatus _ p | .getCounters _ p | .reportAck _ p | .replay _ p
  | .start _ p | .stop _ p | .halt _ p | .abort _ p | .resume _ p | .purge _ p | .resetPart _ p | .setMotion _ p
  | .setLane _ p | .setStation _ p | .setOutput _ p | .setReporting _ p | .revert _ p | .readConfig _ p | .apply _ p
  | .verdict _ p | .readItem _ p | .listItems _ p | .advance _ p => payloadFits p.length
  | .forceOutputOn _ _ r | .forceOutputOff _ _ r | .forceOutputPulse _ _ r => payloadFits (r.length + 2)
  | .badKind k _ p => payloadFits p.length && !isCommandKind k
  | .advanceCount o | .paceCount o | .encoderTransition _ _ o => o.wellFormed
  | .verdictPair | .advanceEnd | .pinReset _ _ | .characterReceived _ _ | .gapTimerExpiry | .breakRecognised
  | .linkBreak | .frameTransmitEnd | .standstillExpiry | .detectorRawChange _ _ | .detectorRevert _
  | .debounceExpiry _ | .creationRequest _ | .endTimeExpiry _ | .maxOnExpiry _ | .recoveryExpiry _ => true

end Sys2Proof
end

