-- ==== Sys2Proof/Safety.lean ====
section
/-! DEFINITION. Safety.lean: the vocabulary of claims: settled states, what a taken command leaves, and the invariants the data
book states of every state of the part. -/

namespace Sys2Proof.Machine

open Sys2Proof

/-! ### Between events -/

/-- Nothing of an earlier event is still to do: no comparison is due, an idle transmitter has nothing available (R166), and
ATTN stands as its conditions say (R185). -/
abbrev Settled (s : State) : Prop :=
  s.rpt.latchDue = false
    ∧ (s.lnk.sending = none → s.lnk.notice = none ∧ s.lnk.replies = [] ∧ s.rpt.offered = none)
    ∧ s.rpt.attention = s.attentionDue

/-- No frame waits that CMD could take once the present event is handled: CMD is not IDLE, the receive queue is empty, or the
reply queue stays full behind a busy transmitter (R157). -/
abbrev NoFrameTaken (s : State) : Prop :=
  s.cmd ≠ .idle ∨ s.lnk.received = []
    ∨ (s.lnk.sending.isSome = true ∧ Config.linkQueueCapacity ≤ s.lnk.replies.length)

/-- A state between events in which the next event is followed by no taking of a frame. -/
abbrev Quiet (s : State) : Prop := Settled s ∧ NoFrameTaken s

/-- The frame of this KIND, SEQ and payload, with the CRC it carries. -/
def goodFrame (kind seq : Byte) (payload : List Byte) : Frame := ⟨kind, seq, payload, frameCrc kind seq payload⟩

/-- CMD would take a frame that arrived now: it is IDLE, none waits before it, and the reply queue has room (R157). -/
abbrev CanTake (s : State) : Prop :=
  Settled s ∧ s.cmd = .idle ∧ s.lnk.received = [] ∧ s.lnk.replies.length < Config.linkQueueCapacity

/-- CMD would take this frame as a new command: neither held nor a duplicate (R158). -/
abbrev Takes (s : State) (kind seq : Byte) (payload : List Byte) : Prop :=
  CanTake s ∧ s.lnk.hold = false ∧ s.lnk.duplicateOf (goodFrame kind seq payload) = none

/-- LNK with a reply queued, or begun at once when the transmitter is idle (R160, R166). -/
def Lnk.withReply (l : Lnk) (r : Reply) : Lnk :=
  if l.sending.isSome then { l with replies := l.replies ++ [r] }
  else { l with sending := some ⟨0x80, r.seq, r.payload, r.effect⟩ }

/-- LNK with a good frame counted (R156, R168). -/
def Lnk.counted (l : Lnk) : Lnk := { l with counters := { l.counters with goodFrames := l.counters.goodFrames + 1 } }

/-- The part as the owner of a taken command finds it: the frame counted, and its SEQ the last taken (R156, R158). -/
def State.taking (s : State) (seq : Byte) : State :=
  { s with lnk := { s.lnk.counted with lastTaken := some seq } }

/-- LNK after a command of this frame was taken and answered: the frame counted, its SEQ the last taken, the reply cached and
queued (R156, R158, R159, R160). -/
def Lnk.afterTaken (l : Lnk) (kind seq : Byte) (payload : List Byte) (a : Answer) : Lnk :=
  { l.counted with
    lastTaken := some seq
    cache := some ⟨seq, frameCrc kind seq payload, replyPayload kind a⟩ }.withReply
    ⟨seq, replyPayload kind a, a.effect⟩

/-- The frame a command row is, if it is one (R196, R198). -/
def frameOfRow : Instr → Option (Byte × Byte × List Byte)
  | .identify q p => some (0x01, q, p)
  | .setLink q p => some (0x02, q, p)
  | .linkResume q p => some (0x03, q, p)
  | .getStatus q p => some (0x04, q, p)
  | .getCounters q p => some (0x05, q, p)
  | .reportAck q p => some (0x06, q, p)
  | .replay q p => some (0x07, q, p)
  | .start q p => some (0x10, q, p)
  | .stop q p => some (0x11, q, p)
  | .halt q p => some (0x12, q, p)
  | .abort q p => some (0x13, q, p)
  | .resume q p => some (0x14, q, p)
  | .purge q p => some (0x15, q, p)
  | .resetPart q p => some (0x16, q, p)
  | .setMotion q p => some (0x18, q, p)
  | .setLane q p => some (0x19, q, p)
  | .setStation q p => some (0x1A, q, p)
  | .setOutput q p => some (0x1B, q, p)
  | .setReporting q p => some (0x1C, q, p)
  | .revert q p => some (0x1D, q, p)
  | .readConfig q p => some (0x1E, q, p)
  | .apply q p => some (0x1F, q, p)
  | .verdict q p => some (0x20, q, p)
  | .readItem q p => some (0x21, q, p)
  | .listItems q p => some (0x22, q, p)
  | .forceOutputOn q o r => some (0x28, q, o :: 1 :: r)
  | .forceOutputOff q o r => some (0x28, q, o :: 0 :: r)
  | .forceOutputPulse q o r => some (0x28, q, o :: 2 :: r)
  | .advance q p => some (0x29, q, p)
  | .badKind k q p => some (k, q, p)
  | .verdictPair | .advanceCount _ | .advanceEnd | .pinReset _ _ | .characterReceived _ _ | .gapTimerExpiry
  | .breakRecognised | .linkBreak | .frameTransmitEnd | .encoderTransition _ _ _ | .paceCount _ | .standstillExpiry
  | .detectorRawChange _ _ | .detectorRevert _ | .debounceExpiry _ | .creationRequest _ | .endTimeExpiry _
  | .maxOnExpiry _ | .recoveryExpiry _ => none

/-- The latch's comparison and ATTN at the end of an event whose other changes are made (R182, R185). -/
def concluded (s : State) : State :=
  let s := latch s
  { s with rpt := { s.rpt with attention := s.attentionDue } }

/-- LNK after a frame error out of hold: the partial frame dropped, the cause counted, hold entered, and the notice in its slot,
or begun at once when the transmitter is idle (R154, R161, R166). -/
def Lnk.afterError (l : Lnk) (cause : LinkError) : Lnk :=
  let l := { l with receiver := .hunt, counters := l.counters.countError cause, hold := true, discards := 0 }
  if l.sending.isSome then { l with notice := some ⟨cause, l.lastTaken⟩ }
  else { l with sending := some ⟨0xE0, 0, Notice.payload ⟨cause, l.lastTaken⟩, .none⟩ }

/-- The codes of a counter group's kind and index (R200). -/
def CounterGroup.codes : CounterGroup → Byte × Byte
  | .lane n => (0, byteOf n.val)
  | .station n => (1, byteOf n.val)
  | .output n => (2, byteOf n.val)
  | .motion => (3, 0)
  | .link => (4, 0)
  | .reports => (5, 0)

/-! ### Ranges of the configuration objects -/

/-- The ranges of the motion object (R100). -/
abbrev MotionConfig.InRange (c : MotionConfig) : Prop :=
  c.paceRate ≤ 1000000 ∧ c.reverseLimit ≤ 65535 ∧ 1 ≤ c.standstill ∧ c.standstill ≤ 65535

/-- The ranges of a lane object (R115). -/
abbrev LaneConfig.InRange (c : LaneConfig) : Prop :=
  c.debounce ≤ 65535 ∧ c.holdoff ≤ 65535 ∧ c.minLength ≤ 65535 ∧ c.maxLength ≤ 4194303

/-- The ranges of a station object (R55). -/
abbrev StationConfig.InRange (c : StationConfig) : Prop :=
  1 ≤ c.offset ∧ c.offset ≤ 4194303 ∧ c.fireDelay ≤ 65535 ∧ 1 ≤ c.lead ∧ c.lead ≤ 65535
    ∧ 1 ≤ c.duration ∧ c.duration ≤ 65535 ∧ 1 ≤ c.patternLength ∧ c.patternLength ≤ 16

/-- The ranges of an output object (R74). -/
abbrev OutputConfig.InRange (c : OutputConfig) : Prop := c.recovery ≤ 65535 ∧ c.maxOn ≤ 65535

/-! ### What the statements name -/

/-- The part after a frame error: the partial frame dropped and its cause counted; out of hold the link besides enters hold with a
notice, and ATTN is active (R154, R161, R185). -/
def State.afterError (s : State) (cause : LinkError) : State :=
  if s.lnk.hold then
    { s with lnk := { s.lnk with receiver := .hunt, counters := s.lnk.counters.countError cause } }
  else { s with lnk := s.lnk.afterError cause, rpt := { s.rpt with attention := true } }

/-- The rows that can make a count (R98, R102, R104, R106). -/
def canMakeCount : Instr → Bool
  | .encoderTransition .. | .paceCount _ | .advanceCount _ => true
  | _ => false

/-- The rows that can reset the part: PIN_RESET, the end of a RESET_PART reply, and a link reset that discards it (R148, R149). -/
def canReset : Instr → Bool
  | .pinReset .. | .frameTransmitEnd | .linkBreak => true
  | _ => false

/-- These commands taken one after another. -/
def execAll : List Instr → State → Host.Outcome State Fault Refusal
  | [], s => .next s
  | c :: cs, s =>
    match exec c s with
    | .next t => execAll cs t
    | o => o

/-- The bytes of VERDICT pairs, each a tag and a class (R200). -/
def pairBytes (pairs : List (Tag × Byte)) : List Byte := pairs.flatMap fun p => littleEndian 2 p.1.toNat ++ [p.2]

/-- An output that FORCE_OUTPUT acts on: enabled, and named by no station of kind CAPTURE or ACTUATE (R94, steps 2 and 3). -/
abbrev MayForce (s : State) (n : OutputId) : Prop :=
  (s.lcu.active.outputs.get n).enabled = true
    ∧ ∀ st, (s.lcu.active.stations.get st).kind = .off ∨ (s.lcu.active.stations.get st).output ≠ n

/-- An output at rest from a time on: its line inactive, no pulse, max-on stopped, and RECOVERY, or IDLE when the recovery time is 0
(R85, R87, R94). -/
def Output.rested (o : Output) (x : OutputConfig) (now : Nat) : Output :=
  { o with
    state := if x.recovery = 0 then .idle else .recovery
    level := !activeLevel x.polarity
    pulse := none
    maxOn := none
    recovery := if x.recovery = 0 then none else some (now + x.recovery) }

/-- A forward tick taken from a state to another: the track position is one more, MOTION is MOVING, the standstill timer runs
anew, and nothing else of MOT changes; the configuration, the pins, the commands waiting and the free values stand, LNK at most
begins a report, and the requests in transit only grow (R98, R108, R111). -/
abbrev TickTaken (s t : State) : Prop :=
  t.mot = { s.mot with
      position := s.mot.position + 1, moving := true, standstill := some (s.now + 1000 * s.lcu.active.motion.standstill) }
    ∧ t.now = s.now ∧ t.pins = s.pins ∧ t.lcu.active = s.lcu.active ∧ t.lcu.staged = s.lcu.staged ∧ t.pending = s.pending
    ∧ t.drawn = s.drawn ∧ s.requests <+: t.requests ∧ t.lnk = { s.lnk with sending := t.lnk.sending }

/-- Nothing is due at the forward tick to the next position: no WAIT entry's commit point and no pending start stands there, no
pulse ends there, and no lane is PRESENT (R16, R79, R84, R124). -/
abbrev NothingDue (s : State) : Prop :=
  (∀ i ∈ s.trk.table, ∀ e ∈ i.entries, e.outcome = .wait →
      (s.lcu.active.stations.get e.station).commitPoint i.reference ≠ s.mot.position + 1)
    ∧ (∀ n ∈ allEight, (∀ r ∈ (s.out.get n).waiting, r.start ≠ s.mot.position + 1)
        ∧ ∀ p ∈ (s.out.get n).pulse, p.endPosition ≠ some (s.mot.position + 1))
    ∧ ∀ n ∈ allLanes, (s.det.get n).state ≠ .present

/-- The pairs of tag and station of the WAIT entries whose commit points stand at the track position, in table order, and within one
item in ascending station number (R16). -/
abbrev DueCommits (s : State) (l : List (Tag × StationId)) : Prop :=
  (∀ p : Tag × StationId, p ∈ l ↔ ∃ i ∈ s.trk.table, i.tag = p.1 ∧ ∃ e ∈ i.entries, e.station = p.2 ∧ e.outcome = .wait
      ∧ (s.lcu.active.stations.get p.2).commitPoint i.reference = s.mot.position)
    ∧ l.Pairwise fun p q => [p.1, q.1].Sublist (s.trk.table.map (·.tag)) ∨ (p.1 = q.1 ∧ p.2 < q.2)

/-- The directions of the eight legal transitions of the encoder, for invert no: the reference, the new sample, and whether the
count is forward (R102). -/
def encoderTable : List ((Bool × Bool) × (Bool × Bool) × Bool) :=
  [((false, false), (true, false), true), ((true, false), (true, true), true),
   ((true, true), (false, true), true), ((false, true), (false, false), true),
   ((false, false), (false, true), false), ((false, true), (true, true), false),
   ((true, true), (true, false), false), ((true, false), (false, false), false)]

/-! ### Items and outcome entries -/

/-- The tracking table with the item of a tag changed. -/
def Trk.withItem (k : Trk) (t : Tag) (f : Item → Item) : Trk :=
  { k with table := k.table.map fun i => if i.tag = t then f i else i }

/-- The tracking table with one outcome entry changed, the one of the item of a tag for a station (R8). -/
def Trk.withEntry (k : Trk) (t : Tag) (st : StationId) (f : Entry → Entry) : Trk :=
  k.withItem t fun i => { i with entries := i.entries.map fun e => if e.station = st then f e else e }

/-- TRK with the counters of a station changed (R72). -/
def Trk.counting (k : Trk) (st : StationId) (f : StationCounters → StationCounters) : Trk :=
  { k with stations := k.stations.set st (f (k.stations.get st)) }

/-! ### VERDICT pairs -/

/-- The rules of a VERDICT pair, a tag and a class byte: its result, and what it leaves at TRK (R35 to R41). -/
inductive PairRule (k : Trk) (t : Tag) : Byte → Result → Trk → Prop where
  | badClass (b : Byte) (h : 15 < b.toNat) : PairRule k t b .badArgument k
  | badTag (b : Byte) (h : t = 0) : PairRule k t b .badArgument k
  | notFound (c : VerdictClass) (ht : t ≠ 0) (h : ∀ i ∈ k.table, i.tag ≠ t) : PairRule k t (byteOf c.val) .notFound k
  | accepted (c : VerdictClass) (ht : t ≠ 0) (i : Item) (hi : i ∈ k.table) (hit : i.tag = t) (hv : i.verdict = .none) :
      PairRule k t (byteOf c.val) .accepted (k.withItem t fun i => { i with verdict := .opened c })
  | already (c : VerdictClass) (ht : t ≠ 0) (i : Item) (hi : i ∈ k.table) (hit : i.tag = t)
      (hv : i.verdict = .opened c ∨ i.verdict = .fixed c) : PairRule k t (byteOf c.val) .already k
  | amended (c d : VerdictClass) (ht : t ≠ 0) (i : Item) (hi : i ∈ k.table) (hit : i.tag = t) (hv : i.verdict = .opened d)
      (hd : d ≠ c) :
      PairRule k t (byteOf c.val) .amended (k.withItem t fun i => { i with verdict := .opened c, amended := true })
  | conflict (c d : VerdictClass) (ht : t ≠ 0) (i : Item) (hi : i ∈ k.table) (hit : i.tag = t) (hv : i.verdict = .fixed d)
      (hd : d ≠ c) : PairRule k t (byteOf c.val) .conflict k
  | tooLate (c d : VerdictClass) (ht : t ≠ 0) (i : Item) (hi : i ∈ k.table) (hit : i.tag = t)
      (hv : i.verdict = .defaulted d) :
      PairRule k t (byteOf c.val) .tooLate
        { k.withItem t (fun i => { i with late := some (i.late.getD c) }) with
          lanes := k.lanes.set i.lane { k.lanes.get i.lane with late := (k.lanes.get i.lane).late + 1 } }

/-! ### Purge -/

/-- What a purge leaves of an outcome: WAIT and ARMED become MISSED:PURGED, ACTIVE becomes FIRED, and a final one stays (R24). -/
def StationOutcome.purged : StationOutcome → StationOutcome
  | .wait | .armed => .missed .purged
  | .active => .fired
  | .fired => .fired
  | .passed => .passed
  | .skipped => .skipped
  | .missed c => .missed c

/-- An item as its ITEM_DONE reports it after a purge, every flag as it stood (R24, R27). -/
def Item.purged (i : Item) : Item := { i with entries := i.entries.map fun e => { e with outcome := e.outcome.purged } }

/-- Whether one of these items has the tag, with an entry of the outcome for the station. -/
def anyEntry (is : List Item) (t : Tag) (st : StationId) (o : StationOutcome) : Bool :=
  is.any fun i => i.tag == t && i.entries.any fun e => e.station == st && e.outcome == o

/-- How many entries of these items stand for the station in one of the outcomes. -/
def countEntries (is : List Item) (st : StationId) (os : List StationOutcome) : Nat :=
  ((is.flatMap (·.entries)).filter fun e => e.station == st && os.contains e.outcome).length

/-- The ITEM_DONE reports of these items, disposition PURGED with the cause, passed in order (R24, R27). -/
def passPurged (cause : PurgeCause) (is : List Item) (s : State) : State :=
  is.foldl (fun s i => passEvent (.itemDone i.purged (.purged cause)) s) s

/-- The part after a purge of a scope, `none` being ALL. The items of the scope leave the table and the others stay in their order;
each station counts its WAIT and ARMED entries in MISSED and its ACTIVE ones in FIRED. At the outputs the pending entries of the
ARMED entries and the attached pairs of the ACTIVE ones are gone, and no others. The ITEM_DONE reports are passed in table order. A
table that was full is full no more, and one left empty in DRAINING ends the drain (R24, R27, R29, R72, R92, R134). -/
def State.afterPurge (cause : PurgeCause) (scope : Option LaneId) (s : State) : State :=
  let gone := s.trk.table.filter fun i => scope.all fun n => i.lane == n
  let left := s.trk.table.filter fun i => scope.any fun n => i.lane != n
  let drained := decide (s.lcu.line = .draining ∧ gone ≠ [] ∧ left = [])
  let drives (st : StationId) (n : OutputId) : Bool := (s.lcu.active.stations.get st).output == n
  { s with
    lcu := { s.lcu with line := if drained then .setup else s.lcu.line }
    trk := { s.trk with
      table := left
      stations := Oct.ofFn fun st =>
        let c := s.trk.stations.get st
        { c with
          missed := c.missed + BitVec.ofNat 32 (countEntries gone st [.wait, .armed])
          fired := c.fired + BitVec.ofNat 32 (countEntries gone st [.active]) } }
    out := Oct.ofFn fun n =>
      let o := s.out.get n
      { o with
        waiting := o.waiting.filter fun r => !(drives r.station n && anyEntry gone r.tag r.station .armed)
        pulse := o.pulse.map fun p =>
          { p with attached := p.attached.filter fun a => !(drives a.2 n && anyEntry gone a.1 a.2 .active) } }
    rpt := { (passPurged cause gone s).rpt with
      latchDue := s.rpt.latchDue || decide (gone ≠ [] ∧ s.trk.table.length = 128) || drained } }

/-! ### APPLY's validation -/

/-- The violations APPLY can find in the staged copy: outside SETUP the objects in which a field that is not live differs, and in
every line state the conditions of the objects (R56, R101, R116, R145). -/
inductive Violates (s : State) : Violation → Prop where
  | motionNotLive (h : s.lcu.line ≠ .setup) (hd : s.lcu.staged.motion ≠ s.lcu.active.motion) :
      Violates s ⟨.notLive, .motion, 0⟩
  | laneNotLive (n : LaneId) (h : s.lcu.line ≠ .setup)
      (hd : s.lcu.staged.lanes.get n ≠ { s.lcu.active.lanes.get n with
        defaultClass := (s.lcu.staged.lanes.get n).defaultClass, announce := (s.lcu.staged.lanes.get n).announce }) :
      Violates s ⟨.notLive, .lane, n.val⟩
  | stationNotLive (n : StationId) (h : s.lcu.line ≠ .setup)
      (hd : s.lcu.staged.stations.get n ≠ { s.lcu.active.stations.get n with
        actionSet := (s.lcu.staged.stations.get n).actionSet
        patternLength := (s.lcu.staged.stations.get n).patternLength
        patternMask := (s.lcu.staged.stations.get n).patternMask }) :
      Violates s ⟨.notLive, .station, n.val⟩
  | outputNotLive (n : OutputId) (h : s.lcu.line ≠ .setup)
      (hd : s.lcu.staged.outputs.get n ≠ { s.lcu.active.outputs.get n with
        enabled := (s.lcu.staged.outputs.get n).enabled }) :
      Violates s ⟨.notLive, .output, n.val⟩
  | paceRange (h : s.lcu.staged.motion.source = .pace) (hr : s.lcu.staged.motion.paceRate = 0) :
      Violates s ⟨.paceRange, .motion, 0⟩
  | minInLeading (n : LaneId) (h : (s.lcu.staged.lanes.get n).mode = .leading) (hm : (s.lcu.staged.lanes.get n).minLength ≠ 0) :
      Violates s ⟨.minInLeading, .lane, n.val⟩
  | lengthLimits (n : LaneId) (h : (s.lcu.staged.lanes.get n).maxLength ≠ 0)
      (hm : (s.lcu.staged.lanes.get n).maxLength < (s.lcu.staged.lanes.get n).minLength) :
      Violates s ⟨.lengthLimits, .lane, n.val⟩
  | laneDisabled (n : StationId) (h : (s.lcu.staged.stations.get n).kind ≠ .off)
      (hd : (s.lcu.staged.lanes.get (s.lcu.staged.stations.get n).lane).enabled = false) :
      Violates s ⟨.stationLaneDisabled, .station, n.val⟩
  | leadRange (n : StationId) (h : (s.lcu.staged.stations.get n).kind ≠ .off)
      (hl : (s.lcu.staged.stations.get n).offset + (s.lcu.staged.stations.get n).fireDelay < (s.lcu.staged.stations.get n).lead) :
      Violates s ⟨.leadRange, .station, n.val⟩
  | patternEmpty (n : StationId) (h : (s.lcu.staged.stations.get n).kind = .capture)
      (hp : ∀ k, k < (s.lcu.staged.stations.get n).patternLength → (s.lcu.staged.stations.get n).patternMask.getLsbD k = false) :
      Violates s ⟨.patternEmpty, .station, n.val⟩
  | outputMixed (n m : StationId) (h : (s.lcu.staged.stations.get n).kind ≠ .off) (hm : (s.lcu.staged.stations.get m).kind ≠ .off)
      (hk : (s.lcu.staged.stations.get m).kind ≠ (s.lcu.staged.stations.get n).kind)
      (ho : (s.lcu.staged.stations.get m).output = (s.lcu.staged.stations.get n).output) :
      Violates s ⟨.outputMixed, .station, n.val⟩
  | outputForced (n : StationId) (h : (s.lcu.staged.stations.get n).kind ≠ .off)
      (hf : (s.out.get (s.lcu.staged.stations.get n).output).state = .forced) :
      Violates s ⟨.outputForced, .station, n.val⟩

/-- The place of an object in the object order: MOTION, LANE 0 to 3, STATION 0 to 7, OUTPUT 0 to 7, REPORTING (R142). -/
def Violation.objectPlace (v : Violation) : Nat :=
  match v.object with
  | .motion => 0
  | .lane => 1 + v.index
  | .station => 5 + v.index
  | .output => 13 + v.index
  | .reporting => 21

/-- The place of a code among the conditions of its object (R56, R116, R145). -/
def ViolationCode.place : ViolationCode → Nat
  | .stationLaneDisabled | .minInLeading | .paceRange => 1
  | .leadRange | .lengthLimits => 2
  | .patternEmpty => 3
  | .outputMixed => 4
  | .outputForced => 5
  | .notLive | .noEnabledLane | .laneNoStation => 0

/-- The order in which violations are found: the live check comes first, then the object order, then the order within an object
(R145). -/
def Violation.rank (v : Violation) : Nat :=
  (if v.code = .notLive then 0 else 1000) + 10 * v.objectPlace + v.code.place

/-! ### What an operation leaves alone -/

/-- What the operations of TRK and OUT, with the reports and the end of a drain they bring, leave alone: everything but the line
state, the tracking table and its counters, the outputs and RPT. -/
structure KeepsBeyondTracking (s t : State) : Prop where
  pending : t.pending = s.pending
  now : t.now = s.now
  pins : t.pins = s.pins
  staged : t.lcu.staged = s.lcu.staged
  active : t.lcu.active = s.lcu.active
  mot : t.mot = s.mot
  det : t.det = s.det
  requests : t.requests = s.requests
  lnk : t.lnk = s.lnk
  cmd : t.cmd = s.cmd
  drawn : t.drawn = s.drawn

/-- What an operation that only reports leaves alone: everything but RPT. -/
structure KeepsBeyondReports (s t : State) : Prop extends KeepsBeyondTracking s t where
  line : t.lcu.line = s.lcu.line
  trk : t.trk = s.trk
  out : t.out = s.out

/-- What the notices of OUT and the removals of items leave alone at TRK: the next-tag counter, the pattern counters and the lane
counters. -/
structure KeepsCounts (s t : State) : Prop where
  nextTag : t.trk.nextTag = s.trk.nextTag
  patterns : t.trk.patterns = s.trk.patterns
  lanes : t.trk.lanes = s.trk.lanes

/-! ### Invariants -/

/-- The tracking table: at most 128 items, no two with one tag, none with tag 0, and a next-tag counter of 1-65535 (R3, R5). -/
abbrev TableInv (s : State) : Prop :=
  s.trk.table.length ≤ 128 ∧ (s.trk.table.map (·.tag)).Nodup ∧ 0 ∉ s.trk.table.map (·.tag) ∧ s.trk.nextTag ≠ 0

/-- Every outcome list is in ascending station number (R8). -/
abbrev OutcomeListInv (s : State) : Prop := ∀ i ∈ s.trk.table, (i.entries.map (·.station)).Pairwise (· < ·)

/-- In SETUP and HALTED the tracking table is empty (R4). -/
abbrev LineTableInv (s : State) : Prop :=
  s.lcu.line = .setup ∨ s.lcu.line = .halted → s.trk.table = []

/-- No item stays in the table after every entry of its outcome list is final (R23). -/
abbrev OpenItemsInv (s : State) : Prop := ∀ i ∈ s.trk.table, i.isDone = false

/-- The reverse debt is at most the reverse limit plus one, and in RUN and DRAINING at most the limit (R108). -/
abbrev DebtInv (s : State) : Prop :=
  s.mot.debt ≤ s.lcu.active.motion.reverseLimit + 1
    ∧ (s.lcu.line = .run ∨ s.lcu.line = .draining → s.mot.debt ≤ s.lcu.active.motion.reverseLimit)

/-- One output: its line at the level its state calls for (R75); a pulse exactly in ACTIVE, a running recovery timer exactly in
RECOVERY, max-on only in ACTIVE (R76); at most 8 pending entries in ascending start position (R77). -/
abbrev Output.Ok (o : Output) (p : Polarity) : Prop :=
  o.level = levelFor p o.state
    ∧ (o.pulse.isSome = true ↔ o.state = .active)
    ∧ (o.recovery.isSome = true ↔ o.state = .recovery)
    ∧ (o.maxOn.isSome = true → o.state = .active)
    ∧ o.waiting.length ≤ 8
    ∧ o.waiting.Pairwise (fun a b => a.start ≤ b.start)

/-- Every output is as R75, R76 and R77 say. -/
abbrev OutputsInv (s : State) : Prop :=
  ∀ n ∈ allEight, (s.out.get n).Ok (s.lcu.active.outputs.get n).polarity

/-- The report queue: at most 64 reports and at most 56 EVENT reports, at most one STATUS report, at most 32 granted (R172, R173,
R176, R182). -/
abbrev ReportBoundsInv (s : State) : Prop :=
  s.rpt.queue.length ≤ 64
    ∧ (s.rpt.queue.filter fun e => e.body.isEvent).length ≤ 56
    ∧ (s.rpt.queue.filter fun e => e.body.isStatus).length ≤ 1
    ∧ s.rpt.window ≤ 32

/-- Report numbers: the queue holds consecutive numbers from the one after the last acknowledged, the next report number
follows them, and the sent-unacknowledged entries are the oldest (R172). -/
abbrev ReportOrderInv (s : State) : Prop :=
  s.rpt.queue.length ≤ 64
    ∧ (s.rpt.queue.zipIdx.all fun x => x.1.number == s.rpt.lastAcknowledged + 1 + BitVec.ofNat 16 x.2) = true
    ∧ s.rpt.nextNumber = s.rpt.lastAcknowledged + 1 + BitVec.ofNat 16 s.rpt.queue.length
    ∧ s.rpt.queue.Pairwise (fun a b => b.sent = true → a.sent = true)

/-- A command is in execution (R157). -/
def Cmd.executing : Cmd → Bool
  | .advancing .. | .judging .. => true
  | .idle | .closed => false

/-- The receive queue and the reply queue hold at most 4 frames each, and a command in execution has room for its reply (R156,
R157, R160). -/
abbrev LinkQueuesInv (s : State) : Prop :=
  s.lnk.received.length ≤ 4 ∧ s.lnk.replies.length ≤ 4 ∧ (s.cmd.executing = true → s.lnk.replies.length < 4)

/-- One lane of DET: a leading position exactly in PRESENT (R120), and for a disabled lane IDLE and no candidate (R117, R128). -/
abbrev Lane.Ok (l : Lane) (c : LaneConfig) : Prop :=
  (l.leading.isSome = true ↔ l.state = .present)
    ∧ (c.enabled = false → l.state = .idle ∧ l.candidate = none)

/-- Every lane is as R117, R120 and R128 say. -/
abbrev LanesInv (s : State) : Prop := ∀ n ∈ allLanes, (s.det.get n).Ok (s.lcu.active.lanes.get n)

end Sys2Proof.Machine
end

