-- ==== Sys2Proof/Certificates/Slice0/Obligations.lean ====
section
/-! DEFINITION. Certificates/Slice0/Obligations.lean: the statements for the provers. Each says one rule, or one group of rules,
of the data book of the model; the docstring names them. -/

open Sys2Proof Sys2Proof.Machine

/-! ### The machine -/

/-- The command at the front of the queue is executed with the queue's rest; on an empty queue one microsecond of the time base
passes and nothing else changes, the model's choice (notes/assumptions/3.md). -/
def Obligations.StepRunsTheFrontCommand : Prop :=
  ∀ s : State, (∀ (c : Instr) (rest : List Instr), s.pending = c :: rest → step s = exec c { s with pending := rest })
    ∧ (s.pending = [] → step s = .next { s with now := s.now + 1 })

/-- PIN_RESET gives every block its reset values, with the rate the straps name and both copies at the default configuration
(R30, R53, R55, R73, R74, R97, R100, R114, R115, R130, R142, R149, R169, R187). The rest is the model's choice: what stands outside
the part (the levels on the pins, the time base, the commands that wait) and the count of free values stay
(notes/assumptions/13.md); of the model's own fields, the time of the pace accumulator is the present one (notes/assumptions/3.md),
no pace count is owed (notes/assumptions/21.md) and no comparison is due (notes/assumptions/9.md); the creation requests in transit are dropped (notes/assumptions/6.md); a break in
progress is ended (notes/assumptions/8.md). -/
def Obligations.PinResetSetsEveryBlock : Prop :=
  ∀ (s : State) (rate1 rate0 : Bool), ∃ t, exec (.pinReset rate1 rate0) s = .next t
    ∧ t.lcu = ⟨.setup, defaultConfiguration, defaultConfiguration⟩
    ∧ t.mot = ⟨0, 0, (s.pins.encA, s.pins.encB), false, none, 0, s.now, 0, false, 0⟩
    ∧ (∀ n, t.det.get n = ⟨.idle, none, none, none, 0, 0, 0⟩)
    ∧ t.requests = []
    ∧ t.trk.table = [] ∧ t.trk.nextTag = 1 ∧ (∀ n, t.trk.patterns.get n = 0)
    ∧ (∀ n, t.trk.lanes.get n = ⟨0, 0, 0, 0, 0⟩) ∧ (∀ n, t.trk.stations.get n = ⟨0, 0, 0, 0⟩)
    ∧ (∀ n, t.out.get n = ⟨.idle, false, [], none, none, none, 0, 0, 0, 0⟩)
    ∧ t.lnk = ⟨(if rate1 then 2 else 0) + (if rate0 then 1 else 0), .hunt, false, [], [], none, none, false, 0, none, none,
        ⟨0, 0, 0, 0, 0, 0, 0, 0, 0, 0⟩⟩
    ∧ t.cmd = .idle
    ∧ t.rpt = ⟨[], 0, 65535, 0, 0, 0, 0, ⟨.setup, false, false, ⟨false, false, false, false⟩, false, false⟩, false, false, 0, 0⟩
    ∧ t.pending = s.pending ∧ t.now = s.now ∧ t.pins = s.pins ∧ t.drawn = s.drawn
    ∧ defaultConfiguration.motion = ⟨.encoder, false, 1000, 64, 500⟩
    ∧ (∀ n, defaultConfiguration.lanes.get n = ⟨false, .activeHigh, .leading, 100, 0, 0, 0, 0, false⟩)
    ∧ (∀ n, defaultConfiguration.stations.get n = ⟨.off, 0, n, 1000, 0, 100, .ticks, 100, 0, 1, 1⟩)
    ∧ (∀ n, defaultConfiguration.outputs.get n = ⟨false, .activeHigh, .reject, 0, 0⟩)
    ∧ defaultConfiguration.statusMask = 0x1FF

/-- The state after reset is a settled one that meets every invariant. State.reset is a pin reset with the straps and the input pins
low and the time base at 0, the model's choice (notes/assumptions/2.md), and so is that no comparison is due in it
(notes/assumptions/9.md). -/
def Obligations.ResetStateMeetsTheInvariants : Prop :=
  Settled State.reset ∧ TableInv State.reset ∧ OutcomeListInv State.reset ∧ LineTableInv State.reset ∧ OpenItemsInv State.reset ∧ DebtInv State.reset
    ∧ OutputsInv State.reset ∧ ReportBoundsInv State.reset ∧ ReportOrderInv State.reset ∧ LinkQueuesInv State.reset
    ∧ LanesInv State.reset

/-! ### How CMD takes a frame -/

/-- While the link is in hold a frame other than a LINK_RESUME is answered HELD, counted in HELD_DISCARDS and in the hold
discard count, and changes nothing else (R158, R162). A frame whose SEQ and CRC equal those of the reply cache's command is
answered with a copy of the cached reply, counted in DUPLICATES, and changes nothing else (R158, R159). -/
def Obligations.HeldAndRepeatedFrames : Prop :=
  (∀ (s : State) (c : Instr) (k q : Byte) (p : List Byte), frameOfRow c = some (k, q, p) → CanTake s → s.lnk.hold = true →
    k ≠ 0x03 →
    exec c s = .next { s with lnk := ({ s.lnk.counted with
        discards := min 65535 (s.lnk.discards + 1)
        counters := { s.lnk.counted.counters with heldDiscards := s.lnk.counters.heldDiscards + 1 } }.withReply
        ⟨q, [k, 0x16], .none⟩) })
    ∧ ∀ (s : State) (c : Instr) (k q : Byte) (p : List Byte), frameOfRow c = some (k, q, p) → CanTake s →
    s.lnk.hold = false → k ≠ 0x03 → ∀ reply : List Byte, s.lnk.cache = some ⟨q, frameCrc k q p, reply⟩ →
    exec c s = .next { s with lnk := ({ s.lnk.counted with
        counters := { s.lnk.counted.counters with duplicates := s.lnk.counters.duplicates + 1 } }.withReply
        ⟨q, reply, .none⟩) }

/-- A command of a length its kind does not admit is answered BAD_LENGTH as a taken command and changes nothing but the link,
and these are the lengths each kind admits (R158, R200). -/
def Obligations.InadmissibleLengthsAreAnsweredBadLength : Prop :=
  (∀ (s : State) (c : Instr) (kind : Kind) (q : Byte) (p : List Byte), frameOfRow c = some (kind.code, q, p) →
    kind ≠ .linkResume → Takes s kind.code q p → kind.admits p.length = false →
    exec c s = .next { s with lnk := s.lnk.afterTaken kind.code q p ⟨.badLength, [], .none⟩ })
    ∧ (∀ k ∈ [Kind.identify, .linkResume, .getStatus, .replay, .start, .stop, .halt, .abort, .resume, .resetPart, .revert, .apply],
      ∀ n, k.admits n = true ↔ n = 0)
    ∧ (∀ k ∈ [Kind.setLink, .purge], ∀ n, k.admits n = true ↔ n = 1)
    ∧ (∀ k ∈ [Kind.setReporting, .readItem, .listItems, .advance], ∀ n, k.admits n = true ↔ n = 2)
    ∧ (∀ k ∈ [Kind.getCounters, .reportAck, .readConfig], ∀ n, k.admits n = true ↔ n = 3)
    ∧ (∀ n, Kind.forceOutput.admits n = true ↔ n = 4) ∧ (∀ n, Kind.setOutput.admits n = true ↔ n = 8)
    ∧ (∀ n, Kind.setMotion.admits n = true ↔ n = 10) ∧ (∀ n, Kind.setLane.admits n = true ↔ n = 16)
    ∧ (∀ n, Kind.setStation.admits n = true ↔ n = 20)
    ∧ (∀ n, Kind.verdict.admits n = true ↔ ∃ pairs, 1 ≤ pairs ∧ pairs ≤ 32 ∧ n = 3 * pairs)

/-- BAD_KIND: a frame of a KIND that is no command's is answered BAD_KIND as a taken command and changes nothing but the link.
Every command kind has its code, and no other byte is a command kind (R158, R198). -/
def Obligations.BadKindIsAnsweredBadKind : Prop :=
  (∀ (s : State) (k q : Byte) (p : List Byte), (Instr.badKind k q p).wellFormed = true → Takes s k q p →
    exec (.badKind k q p) s = .next { s with lnk := s.lnk.afterTaken k q p ⟨.badKind, [], .none⟩ })
    ∧ (∀ k : Kind, kindOf k.code = some k) ∧ (∀ (b : Byte) (k : Kind), kindOf b = some k → k.code = b)
    ∧ ∀ b : Byte, kindOf b = none ↔ isCommandKind b = false

/-- A good frame that CMD cannot take, since CMD is not IDLE or the reply queue is full, waits in the receive queue (R156, R157);
offered to a full queue it is dropped as an OVERRUN, which is counted and, out of hold, puts the link in hold with a notice (R154,
R156, R161). How waiting frames are taken, which takeFrames is: while CMD is IDLE, a frame waits and the reply queue has room, CMD
takes the oldest, in an event of its own, and judges it as it judges the frame of a row that it takes at its arrival; otherwise it
takes none (R157). After which rows frames are taken, VerdictPairFollowsItsRule, AdvanceBeginsAndEnds and
TransmitEndBeginsTheNextFrame say. -/
def Obligations.FramesWaitInTheReceiveQueue : Prop :=
  (∀ (s : State) (c : Instr) (k q : Byte) (p : List Byte), frameOfRow c = some (k, q, p) → Settled s →
    s.cmd ≠ .idle ∨ 4 ≤ s.lnk.replies.length →
    (s.lnk.received.length < 4 →
      exec c s = .next { s with lnk := { s.lnk.counted with received := s.lnk.received ++ [goodFrame k q p] } })
    ∧ (s.lnk.received.length = 4 → exec c s = .next (s.afterError .overrun)))
    ∧ (∀ (s : State) (f : Frame) (fs : List Frame), s.lnk.received = f :: fs → s.cmd = .idle → s.lnk.replies.length < 4 →
      takeFrames s.lnk.received.length s =
        takeFrames fs.length (endEvent (judgeTaken f { s with lnk := { s.lnk with received := fs } })))
    ∧ (∀ s : State, s.lnk.received = [] ∨ s.cmd ≠ .idle ∨ 4 ≤ s.lnk.replies.length →
      takeFrames s.lnk.received.length s = s)
    ∧ ∀ (s : State) (c : Instr) (k q : Byte) (p : List Byte), frameOfRow c = some (k, q, p) → CanTake s →
      exec c s = .next (endEvent (judgeTaken (goodFrame k q p) { s with lnk := s.lnk.counted }))

/-! ### Link and report commands -/

/-- IDENTIFY replies with the part code VT4120, revision 1, the capacities and the rate code, and changes nothing but the link
(R167, R203). That the part code is sent in ASCII is the model's presumption (notes/assumptions/25.md). -/
def Obligations.IdentifyReplies : Prop :=
  ∀ (s : State) (q : Byte), Takes s 0x01 q [] →
    exec (.identify q []) s = .next { s with lnk := (s.lnk.afterTaken 0x01 q []
      ⟨.ok, [0x56, 0x54, 0x34, 0x31, 0x32, 0x30, 1, 128, 4, 8, 8, 64, byteOf s.lnk.rate.val], .none⟩) }

/-- SET_LINK is answered OK with the rate code, and its reply brings the rate; a code above 3 is answered BAD_ARGUMENT (R151).
-/
def Obligations.SetLinkNamesTheRate : Prop :=
  ∀ (s : State) (q : Byte),
    (∀ c : RateCode, Takes s 0x02 q [byteOf c.val] →
      exec (.setLink q [byteOf c.val]) s = .next { s with lnk := (s.lnk.afterTaken 0x02 q [byteOf c.val]
        ⟨.ok, [byteOf c.val], .setRate c⟩) })
    ∧ ∀ b : Byte, 3 < b.toNat → Takes s 0x02 q [b] →
      exec (.setLink q [b]) s = .next { s with lnk := s.lnk.afterTaken 0x02 q [b] ⟨.badArgument, [], .none⟩ }

/-- LINK_RESUME clears hold and replies whether the link was held, the last taken SEQ and the discard count; with a payload it
is answered BAD_LENGTH and clears nothing. It is no taken command: the last taken SEQ and the reply cache stand (R158, R163). -/
def Obligations.LinkResumeClearsHold : Prop :=
  ∀ (s : State) (q : Byte), CanTake s →
    (exec (.linkResume q []) s = .next
      (let t := { s with lnk := ({ s.lnk.counted with hold := false }.withReply
        ⟨q, [0x03, 0x00, boolByte s.lnk.hold] ++ (match s.lnk.lastTaken with | none => [0, 0] | some l => [1, l])
          ++ littleEndian 2 s.lnk.discards, .none⟩) }
      { t with rpt := { t.rpt with attention := t.attentionDue } }))
    ∧ ∀ p : List Byte, p ≠ [] → p.length ≤ 248 →
      exec (.linkResume q p) s = .next { s with lnk := s.lnk.counted.withReply ⟨q, [0x03, 0x11], .none⟩ }

/-- GET_STATUS replies with the live status, the track position, the occupancies and the report window, and changes nothing but
the link: neither the snapshot nor ENCODER_ERROR (R184, R203). -/
def Obligations.GetStatusReplies : Prop :=
  ∀ (s : State) (q : Byte), Takes s 0x04 q [] →
    exec (.getStatus q []) s = .next { s with lnk := (s.lnk.afterTaken 0x04 q []
      ⟨.ok, s.lcu.line.code ::
        littleEndian 2 (bitsOf [false, s.mot.moving, decide (0 < s.mot.debt), (s.det.get 0).state == .blocked,
          (s.det.get 1).state == .blocked, (s.det.get 2).state == .blocked, (s.det.get 3).state == .blocked,
          s.trk.table.length == 128, s.mot.encoderError])
        ++ positionBytes s.mot.position
        ++ [byteOf s.trk.table.length, byteOf s.rpt.queue.length,
            byteOf (s.rpt.queue.filter fun e => !e.sent).length, byteOf (s.rpt.queue.filter fun e => e.sent).length,
            byteOf s.rpt.window]
        ++ littleEndian 2 s.rpt.lastAcknowledged.toNat ++ littleEndian 2 s.rpt.nextNumber.toNat
        ++ [byteOf s.rpt.lost, 0], .none⟩) }

/-- GET_COUNTERS is answered BAD_ARGUMENT for a group kind outside the six, an index outside its range or a clear flag other
than yes or no, and then changes nothing but the link. Otherwise it replies with the members of the group in their order; with
the clear flag they are then 0, and every other counter and all else keeps its value (R188, R189, R190). -/
def Obligations.GetCountersReadsAndClears : Prop :=
  (∀ (s : State) (q x y z : Byte),
    5 < x.toNat ∨ (x = 0 ∧ 3 < y.toNat) ∨ ((x = 1 ∨ x = 2) ∧ 7 < y.toNat) ∨ (2 < x.toNat ∧ y ≠ 0) ∨ 1 < z.toNat →
    Takes s 0x05 q [x, y, z] →
    exec (.getCounters q [x, y, z]) s =
      .next { s with lnk := s.lnk.afterTaken 0x05 q [x, y, z] ⟨.badArgument, [], .none⟩ })
  ∧ ∀ (s : State) (q : Byte) (g : CounterGroup),
    (Takes s 0x05 q [g.codes.1, g.codes.2, 0] →
      exec (.getCounters q [g.codes.1, g.codes.2, 0]) s =
        .next { s with lnk := (s.lnk.afterTaken 0x05 q [g.codes.1, g.codes.2, 0]
          ⟨.ok, [g.codes.1, g.codes.2, 0] ++ ((s.taking q).counters g).flatMap (fun c => littleEndian 4 c.toNat), .none⟩) })
    ∧ (Takes s 0x05 q [g.codes.1, g.codes.2, 1] → ∃ t, exec (.getCounters q [g.codes.1, g.codes.2, 1]) s = .next t
      ∧ (∀ c ∈ t.counters g, c = 0)
      ∧ (∀ h, h ≠ g → t.counters h = (s.taking q).counters h)
      ∧ t.lnk = { s.lnk.afterTaken 0x05 q [g.codes.1, g.codes.2, 1]
          ⟨.ok, [g.codes.1, g.codes.2, 1] ++ ((s.taking q).counters g).flatMap (fun c => littleEndian 4 c.toNat), .none⟩ with
          counters := t.lnk.counters }
      ∧ t.pending = s.pending ∧ t.now = s.now ∧ t.pins = s.pins ∧ t.lcu = s.lcu
      ∧ t.mot = { s.mot with illegal := t.mot.illegal }
      ∧ (∀ n, t.det.get n = { s.det.get n with
          suppressed := (t.det.get n).suppressed, runt := (t.det.get n).runt, overlong := (t.det.get n).overlong })
      ∧ t.requests = s.requests
      ∧ t.trk = { s.trk with lanes := t.trk.lanes, stations := t.trk.stations }
      ∧ (∀ n, t.out.get n = { s.out.get n with
          started := (t.out.get n).started, merged := (t.out.get n).merged, busyMisses := (t.out.get n).busyMisses,
          truncated := (t.out.get n).truncated })
      ∧ t.cmd = s.cmd
      ∧ t.rpt = { s.rpt with lostEvents := t.rpt.lostEvents, suppressedFaults := t.rpt.suppressedFaults }
      ∧ t.drawn = s.drawn)

/-- REPORT_ACK naming a sent-unacknowledged entry removes it and every older entry, sets the last acknowledged number and W,
clears ENCODER_ERROR if a removed STATUS report carried it set, and has the latch compare. Naming the last acknowledged number
it only sets W; a window above 32, or any other number, is answered BAD_ARGUMENT and changes neither the queue nor W (R177,
R183). -/
def Obligations.ReportAckReleasesReports : Prop :=
  (∀ (s : State) (q : Byte) (old : List ReportEntry) (e : ReportEntry) (rest : List ReportEntry),
    s.rpt.queue = old ++ e :: rest → ∀ low high : Byte, e.number = high ++ low → ∀ w : Nat, w ≤ 32 →
    e.sent = true → (∀ x ∈ old, x.number ≠ e.number) → Takes s 0x06 q [low, high, byteOf w] →
    exec (.reportAck q [low, high, byteOf w]) s = .next (concluded { s with
      rpt := { s.rpt with queue := rest, lastAcknowledged := e.number, window := w, latchDue := true }
      mot := { s.mot with
        encoderError := s.mot.encoderError && !((old ++ [e]).any fun x => x.carriedEncoderError) }
      lnk := (s.lnk.afterTaken 0x06 q [low, high, byteOf w]
        ⟨.ok, [byteOf (old.length + 1), low, high, byteOf w], .none⟩) }))
    ∧ ∀ (s : State) (q low high w : Byte), Takes s 0x06 q [low, high, w] →
    (w.toNat ≤ 32 → s.rpt.lastAcknowledged = high ++ low → (∀ e ∈ s.rpt.queue, e.sent = true → e.number ≠ high ++ low) →
      exec (.reportAck q [low, high, w]) s = .next (concluded { s with
        rpt := { s.rpt with window := w.toNat }
        lnk := s.lnk.afterTaken 0x06 q [low, high, w] ⟨.ok, [0, low, high, w], .none⟩ }))
    ∧ ((32 < w.toNat ∨ (s.rpt.lastAcknowledged ≠ high ++ low
          ∧ ∀ e ∈ s.rpt.queue, e.sent = true → e.number ≠ high ++ low)) →
      exec (.reportAck q [low, high, w]) s = .next { s with
        lnk := s.lnk.afterTaken 0x06 q [low, high, w] ⟨.badArgument, [], .none⟩ })

/-- REPLAY returns every sent-unacknowledged entry to pending, and replies with their number (R178). -/
def Obligations.ReplayReturnsEntriesToPending : Prop :=
  ∀ (s : State) (q : Byte), Takes s 0x07 q [] →
    exec (.replay q []) s = .next (concluded { s with
      rpt := { s.rpt with queue := s.rpt.queue.map fun e => { e with sent := false } }
      lnk := s.lnk.afterTaken 0x07 q [] ⟨.ok, [byteOf (s.rpt.queue.filter fun e => e.sent).length], .none⟩ })

/-! ### Line commands -/

/-- START in SETUP with an enabled lane and a station for each enabled lane takes the line to RUN, sets every pattern counter
and the debt to 0, and passes the change to the latch; nothing else changes. It is refused outside SETUP with WRONG_STATE,
without an enabled lane with NO_ENABLED_LANE, and for the first enabled lane without a station with LANE_NO_STATION, and then
changes nothing but the link (R64, R108, R132, R140). RESUME takes HALTED to RUN and sets the debt to 0, keeping the pattern
counters and all else; elsewhere it is refused with WRONG_STATE (R108, R137, R140). -/
def Obligations.StartAndResumeEnterRun : Prop :=
  ((∀ (s : State) (q : Byte), Takes s 0x10 q [] → s.lcu.line = .setup →
    (∃ n, (s.lcu.active.lanes.get n).enabled = true) →
    (∀ n, (s.lcu.active.lanes.get n).enabled = true →
      ∃ st, (s.lcu.active.stations.get st).kind ≠ .off ∧ (s.lcu.active.stations.get st).lane = n) →
    exec (.start q []) s = .next (concluded { s with
      lcu := { s.lcu with line := .run }
      trk := { s.trk with patterns := Oct.same 0 }
      mot := { s.mot with debt := 0 }
      rpt := { s.rpt with latchDue := true }
      lnk := s.lnk.afterTaken 0x10 q [] ⟨.ok, [1, 0, 0, 0, 0], .none⟩ }))
    ∧ ∀ (s : State) (q : Byte), Takes s 0x10 q [] →
    (s.lcu.line ≠ .setup →
      exec (.start q []) s =
        .next { s with lnk := (s.lnk.afterTaken 0x10 q [] ⟨.wrongState, [s.lcu.line.code, 0, 0, 0, 0], .none⟩) })
    ∧ (s.lcu.line = .setup → (∀ n, (s.lcu.active.lanes.get n).enabled = false) →
      exec (.start q []) s = .next { s with lnk := (s.lnk.afterTaken 0x10 q [] ⟨.invalidConfig, [0, 0, 10, 1, 0], .none⟩) })
    ∧ ∀ n : LaneId, s.lcu.line = .setup → (s.lcu.active.lanes.get n).enabled = true →
      (∀ st, (s.lcu.active.stations.get st).kind = .off ∨ (s.lcu.active.stations.get st).lane ≠ n) →
      (∀ m, m < n → (s.lcu.active.lanes.get m).enabled = true →
        ∃ st, (s.lcu.active.stations.get st).kind ≠ .off ∧ (s.lcu.active.stations.get st).lane = m) →
      exec (.start q []) s =
        .next { s with lnk := (s.lnk.afterTaken 0x10 q [] ⟨.invalidConfig, [0, 0, 11, 1, byteOf n.val], .none⟩) })
    ∧ ∀ (s : State) (q : Byte), Takes s 0x14 q [] →
    (s.lcu.line = .halted → exec (.resume q []) s = .next (concluded { s with
      lcu := { s.lcu with line := .run }
      mot := { s.mot with debt := 0 }
      rpt := { s.rpt with latchDue := true }
      lnk := s.lnk.afterTaken 0x14 q [] ⟨.ok, [1, 0, 0, 0, 0], .none⟩ }))
    ∧ (s.lcu.line ≠ .halted →
      exec (.resume q []) s =
        .next { s with lnk := (s.lnk.afterTaken 0x14 q [] ⟨.wrongState, [s.lcu.line.code, 0, 0, 0, 0], .none⟩) })

/-- STOP by the line state: RUN to DRAINING, or to SETUP with an empty table; HALTED to SETUP; ALREADY in DRAINING and
WRONG_STATE in SETUP, where only the link changes (R133, R140). -/
def Obligations.StopByLineState : Prop :=
  ∀ (s : State) (q : Byte), Takes s 0x11 q [] →
    (s.lcu.line = .run → s.trk.table ≠ [] → exec (.stop q []) s = .next (concluded { s with
      lcu := { s.lcu with line := .draining }
      rpt := { s.rpt with latchDue := true }
      lnk := s.lnk.afterTaken 0x11 q [] ⟨.ok, [2, 0, 0, 0, 0], .none⟩ }))
    ∧ (s.lcu.line = .halted ∨ (s.lcu.line = .run ∧ s.trk.table = []) → exec (.stop q []) s = .next (concluded { s with
      lcu := { s.lcu with line := .setup }
      rpt := { s.rpt with latchDue := true }
      lnk := s.lnk.afterTaken 0x11 q [] ⟨.ok, [0, 0, 0, 0, 0], .none⟩ }))
    ∧ (s.lcu.line = .draining →
      exec (.stop q []) s = .next { s with lnk := (s.lnk.afterTaken 0x11 q [] ⟨.already, [2, 0, 0, 0, 0], .none⟩) })
    ∧ (s.lcu.line = .setup →
      exec (.stop q []) s = .next { s with lnk := (s.lnk.afterTaken 0x11 q [] ⟨.wrongState, [0, 0, 0, 0, 0], .none⟩) })

/-- HALT in RUN or DRAINING takes RUN to HALTED and DRAINING to SETUP and purges every item, cause HALT: every outcome is closed and
counted, the purged items' pending entries and attachments leave the outputs and no others do, and ITEM_DONE, PURGED with the cause,
is passed for each item in table order; its reply counts the items. It keeps the debt, the pattern counters, the configuration, the
detectors and the running pulses (R24, R27, R92, R135, R140). Elsewhere it is refused with WRONG_STATE. ABORT outside SETUP purges
with cause ABORT and takes the line to SETUP, keeping what HALT keeps; in SETUP it is answered ALREADY (R24, R92, R136, R140). -/
def Obligations.HaltAndAbortEmptyTheTable : Prop :=
  (∀ (s : State) (q : Byte), Takes s 0x12 q [] →
    (s.lcu.line = .run ∨ s.lcu.line = .draining → TableInv s → OutcomeListInv s → exec (.halt q []) s = .next (concluded
      { State.afterPurge .halt none { s with
          lcu := { s.lcu with line := if s.lcu.line = .run then .halted else .setup }
          rpt := { s.rpt with latchDue := true } } with
        lnk := s.lnk.afterTaken 0x12 q []
          ⟨.ok, [(if s.lcu.line = .run then LineState.halted else .setup).code, byteOf s.trk.table.length, 0, 0, 0], .none⟩ }))
    ∧ (s.lcu.line = .run ∨ s.lcu.line = .draining → ∃ t, exec (.halt q []) s = .next t
      ∧ t.lcu.line = (if s.lcu.line = .run then .halted else .setup)
      ∧ t.trk.table = []
      ∧ t.lnk = s.lnk.afterTaken 0x12 q [] ⟨.ok, [t.lcu.line.code, byteOf s.trk.table.length, 0, 0, 0], .none⟩
      ∧ KeepsBeyondTracking { s with lnk := t.lnk } t ∧ KeepsCounts s t
      ∧ ∀ n, t.out.get n = { s.out.get n with waiting := (t.out.get n).waiting, pulse := (t.out.get n).pulse }
        ∧ (t.out.get n).waiting.Sublist (s.out.get n).waiting
        ∧ (t.out.get n).pulse.map (fun p => (p.endPosition, p.endTime))
          = (s.out.get n).pulse.map (fun p => (p.endPosition, p.endTime)))
    ∧ (s.lcu.line = .setup ∨ s.lcu.line = .halted →
      exec (.halt q []) s =
        .next { s with lnk := (s.lnk.afterTaken 0x12 q [] ⟨.wrongState, [s.lcu.line.code, 0, 0, 0, 0], .none⟩) }))
    ∧ ∀ (s : State) (q : Byte), Takes s 0x13 q [] →
    (s.lcu.line ≠ .setup → TableInv s → OutcomeListInv s → exec (.abort q []) s = .next (concluded
      { State.afterPurge .abort none { s with
          lcu := { s.lcu with line := .setup }
          rpt := { s.rpt with latchDue := true } } with
        lnk := s.lnk.afterTaken 0x13 q [] ⟨.ok, [0, byteOf s.trk.table.length, 0, 0, 0], .none⟩ }))
    ∧ (s.lcu.line ≠ .setup → ∃ t, exec (.abort q []) s = .next t
      ∧ t.lcu.line = .setup
      ∧ t.trk.table = []
      ∧ t.lnk = s.lnk.afterTaken 0x13 q [] ⟨.ok, [0, byteOf s.trk.table.length, 0, 0, 0], .none⟩
      ∧ KeepsBeyondTracking { s with lnk := t.lnk } t ∧ KeepsCounts s t
      ∧ ∀ n, t.out.get n = { s.out.get n with waiting := (t.out.get n).waiting, pulse := (t.out.get n).pulse }
        ∧ (t.out.get n).waiting.Sublist (s.out.get n).waiting
        ∧ (t.out.get n).pulse.map (fun p => (p.endPosition, p.endTime))
          = (s.out.get n).pulse.map (fun p => (p.endPosition, p.endTime)))
    ∧ (s.lcu.line = .setup →
      exec (.abort q []) s = .next { s with lnk := (s.lnk.afterTaken 0x13 q [] ⟨.already, [0, 0, 0, 0, 0], .none⟩) })

/-- PURGE of a lane or of ALL removes exactly the items of its scope in RUN or DRAINING, cause PURGE, replies their number, and leaves
the line state but where a drain ends. The outcomes of the removed items are closed and counted, their pending entries and
attachments leave the outputs and no others do, and ITEM_DONE, PURGED with the cause, is passed for each in table order (R24, R27,
R92, R134, R138, R140). A scope that is neither is answered BAD_ARGUMENT before the line state is judged, and in SETUP and HALTED a
PURGE is answered WRONG_STATE. -/
def Obligations.PurgeRemovesItsScope : Prop :=
  ∀ (s : State) (q b : Byte), Takes s 0x15 q [b] →
    (∀ scope : Option LaneId, b = (match scope with | none => 0xFF | some n => byteOf n.val) →
      s.lcu.line = .run ∨ s.lcu.line = .draining → TableInv s →
      (OutcomeListInv s → exec (.purge q [b]) s = .next (concluded
        { State.afterPurge .purge scope s with
          lnk := s.lnk.afterTaken 0x15 q [b] ⟨.ok,
            [(State.afterPurge .purge scope s).lcu.line.code,
              byteOf (s.trk.table.filter fun i => scope.all fun n => i.lane == n).length, 0, 0, 0], .none⟩ }))
      ∧ ∃ t, exec (.purge q [b]) s = .next t
      ∧ t.trk.table = s.trk.table.filter (fun i => scope.any fun n => i.lane != n)
      ∧ t.lcu.line = (if s.lcu.line = .draining ∧ s.trk.table ≠ [] ∧ t.trk.table = [] then .setup else s.lcu.line)
      ∧ t.lnk = s.lnk.afterTaken 0x15 q [b]
        ⟨.ok, [t.lcu.line.code, byteOf (s.trk.table.length - t.trk.table.length), 0, 0, 0], .none⟩
      ∧ KeepsBeyondTracking { s with lnk := t.lnk } t ∧ KeepsCounts s t
      ∧ ∀ n, t.out.get n = { s.out.get n with waiting := (t.out.get n).waiting, pulse := (t.out.get n).pulse }
        ∧ (t.out.get n).waiting.Sublist (s.out.get n).waiting
        ∧ (t.out.get n).pulse.map (fun p => (p.endPosition, p.endTime))
          = (s.out.get n).pulse.map (fun p => (p.endPosition, p.endTime)))
    ∧ (3 < b.toNat → b ≠ 0xFF →
      exec (.purge q [b]) s =
        .next { s with lnk := (s.lnk.afterTaken 0x15 q [b] ⟨.badArgument, [s.lcu.line.code, 0, 0, 0, 0], .none⟩) })
    ∧ (b.toNat ≤ 3 ∨ b = 0xFF → s.lcu.line = .setup ∨ s.lcu.line = .halted →
      exec (.purge q [b]) s =
        .next { s with lnk := (s.lnk.afterTaken 0x15 q [b] ⟨.wrongState, [s.lcu.line.code, 0, 0, 0, 0], .none⟩) })

/-- What a purge does to one outcome entry, with the output's part in it: a WAIT entry becomes MISSED:PURGED; an ARMED one too, and
its request leaves the pending list of its output; an ACTIVE one becomes FIRED and is detached from the pulse, which runs on; each is
counted by its station; a final one is left (R10, R24, R72, R92). -/
def Obligations.PurgeEntryByOutcome : Prop :=
  ∀ s : State, TableInv s → ∀ i ∈ s.trk.table, ∀ e ∈ i.entries, (∀ f ∈ i.entries, f.station = e.station → f = e) →
    let t := i.tag
    let st := e.station
    let n := (s.lcu.active.stations.get st).output
    let u := purgeEntry t s st
    let missed : Trk := (s.trk.withEntry t st fun f => { f with outcome := .missed .purged }).counting st fun c =>
      { c with missed := c.missed + 1 }
    let fired : Trk := (s.trk.withEntry t st fun f => { f with outcome := .fired }).counting st fun c =>
      { c with fired := c.fired + 1 }
    (e.outcome = .wait → u = { s with trk := missed })
    ∧ (e.outcome = .armed → u = { s with
        trk := missed
        out := s.out.set n { s.out.get n with
          waiting := (s.out.get n).waiting.filter fun r => !(r.tag == t && r.station == st) } })
    ∧ (e.outcome = .active → u = { s with
        trk := fired
        out := s.out.set n { s.out.get n with
          pulse := (s.out.get n).pulse.map fun p =>
            { p with attached := p.attached.filter fun a => !(a.1 == t && a.2 == st) } } })
    ∧ (e.outcome.isFinal = true → u = s)

/-- RESET_PART is answered OK with a reply that brings the part reset, and closes CMD; nothing else changes (R148, R157). -/
def Obligations.ResetPartClosesTheCommandUnit : Prop :=
  ∀ (s : State) (q : Byte), Takes s 0x16 q [] →
    exec (.resetPart q []) s = .next { s with
      cmd := .closed
      lnk := s.lnk.afterTaken 0x16 q [] ⟨.ok, [], .partReset⟩ }

/-! ### Configuration commands -/

/-- SET_REPORTING writes the status mask into the staged copy, its reserved bits as 0. SET_MOTION, SET_LANE, SET_STATION and
SET_OUTPUT write the object their payload spells into the staged copy and change nothing else but the link; a payload that
spells none, or names no object, is answered BAD_ARGUMENT and changes nothing but the link (R142, R143, R197). -/
def Obligations.SetCommandsStageObjects : Prop :=
  ∀ (s : State) (q : Byte),
    (∀ p : List Byte, p.length = 10 → Takes s 0x18 q p →
      exec (.setMotion q p) s = .next (match readMotion p 0 with
        | some m => { s with
            lcu := { s.lcu with staged := { s.lcu.staged with motion := m } }
            lnk := s.lnk.afterTaken 0x18 q p ⟨.ok, [], .none⟩ }
        | none => { s with lnk := s.lnk.afterTaken 0x18 q p ⟨.badArgument, [], .none⟩ }))
    ∧ (∀ (b : Byte) (p : List Byte), p.length = 15 → Takes s 0x19 q (b :: p) →
      exec (.setLane q (b :: p)) s = .next (match readLane p 0 with
        | some l =>
          if h : b.toNat < 4 then { s with
            lcu := { s.lcu with staged := { s.lcu.staged with lanes := s.lcu.staged.lanes.set ⟨b.toNat, h⟩ l } }
            lnk := s.lnk.afterTaken 0x19 q (b :: p) ⟨.ok, [], .none⟩ }
          else { s with lnk := s.lnk.afterTaken 0x19 q (b :: p) ⟨.badArgument, [], .none⟩ }
        | none => { s with lnk := s.lnk.afterTaken 0x19 q (b :: p) ⟨.badArgument, [], .none⟩ }))
    ∧ (∀ (b : Byte) (p : List Byte), p.length = 19 → Takes s 0x1A q (b :: p) →
      exec (.setStation q (b :: p)) s = .next (match readStation p 0 with
        | some x =>
          if h : b.toNat < 8 then { s with
            lcu := { s.lcu with staged := { s.lcu.staged with stations := s.lcu.staged.stations.set ⟨b.toNat, h⟩ x } }
            lnk := s.lnk.afterTaken 0x1A q (b :: p) ⟨.ok, [], .none⟩ }
          else { s with lnk := s.lnk.afterTaken 0x1A q (b :: p) ⟨.badArgument, [], .none⟩ }
        | none => { s with lnk := s.lnk.afterTaken 0x1A q (b :: p) ⟨.badArgument, [], .none⟩ }))
    ∧ (∀ (b : Byte) (p : List Byte), p.length = 7 → Takes s 0x1B q (b :: p) →
      exec (.setOutput q (b :: p)) s = .next (match readOutput p 0 with
        | some o =>
          if h : b.toNat < 8 then { s with
            lcu := { s.lcu with staged := { s.lcu.staged with outputs := s.lcu.staged.outputs.set ⟨b.toNat, h⟩ o } }
            lnk := s.lnk.afterTaken 0x1B q (b :: p) ⟨.ok, [], .none⟩ }
          else { s with lnk := s.lnk.afterTaken 0x1B q (b :: p) ⟨.badArgument, [], .none⟩ }
        | none => { s with lnk := s.lnk.afterTaken 0x1B q (b :: p) ⟨.badArgument, [], .none⟩ }))
    ∧ (∀ low high : Byte, Takes s 0x1C q [low, high] →
    exec (.setReporting q [low, high]) s = .next { s with
      lcu := { s.lcu with staged := { s.lcu.staged with statusMask := (high ++ low) &&& 0x1FF } }
      lnk := s.lnk.afterTaken 0x1C q [low, high] ⟨.ok, [], .none⟩ })

/-- The bytes of an object of admitted length spell exactly the objects within their ranges, and each such object has exactly
the bytes READ_CONFIG returns for it (R100, R115, R55, R74, R201, R202). -/
def Obligations.ObjectBytesSpellTheObjects : Prop :=
  (∀ (p : List Byte) (m : MotionConfig), p.length = 10 → (readMotion p 0 = some m ↔ m.InRange ∧ motionBytes m = p))
    ∧ (∀ (p : List Byte) (l : LaneConfig), p.length = 15 → (readLane p 0 = some l ↔ l.InRange ∧ laneBytes l = p))
    ∧ (∀ (p : List Byte) (x : StationConfig), p.length = 19 → (readStation p 0 = some x ↔ x.InRange ∧ stationBytes x = p))
    ∧ (∀ (p : List Byte) (o : OutputConfig), p.length = 7 → (readOutput p 0 = some o ↔ o.InRange ∧ outputBytes o = p))

/-- READ_CONFIG returns the object as held in the copy named, and changes nothing but the link; a copy, kind or index outside
its range is answered BAD_ARGUMENT (R144, R203). REVERT copies the active copy into the staged copy and changes nothing else but
the link (R144). -/
def Obligations.ReadConfigAndRevert : Prop :=
  (∀ (s : State) (q : Byte) (staged : Bool),
    let c := if staged then s.lcu.staged else s.lcu.active
    let b : Byte := if staged then 0 else 1
    (Takes s 0x1E q [b, 0, 0] →
      exec (.readConfig q [b, 0, 0]) s =
        .next { s with lnk := (s.lnk.afterTaken 0x1E q [b, 0, 0] ⟨.ok, [b, 0, 0] ++ motionBytes c.motion, .none⟩) })
    ∧ (∀ n : LaneId, Takes s 0x1E q [b, 1, byteOf n.val] →
      exec (.readConfig q [b, 1, byteOf n.val]) s =
        .next { s with lnk := (s.lnk.afterTaken 0x1E q [b, 1, byteOf n.val] ⟨.ok, [b, 1, byteOf n.val] ++ laneBytes (c.lanes.get n), .none⟩) })
    ∧ (∀ n : StationId, Takes s 0x1E q [b, 2, byteOf n.val] →
      exec (.readConfig q [b, 2, byteOf n.val]) s =
        .next { s with lnk := (s.lnk.afterTaken 0x1E q [b, 2, byteOf n.val] ⟨.ok, [b, 2, byteOf n.val] ++ stationBytes (c.stations.get n), .none⟩) })
    ∧ (∀ n : OutputId, Takes s 0x1E q [b, 3, byteOf n.val] →
      exec (.readConfig q [b, 3, byteOf n.val]) s =
        .next { s with lnk := (s.lnk.afterTaken 0x1E q [b, 3, byteOf n.val] ⟨.ok, [b, 3, byteOf n.val] ++ outputBytes (c.outputs.get n), .none⟩) })
    ∧ (Takes s 0x1E q [b, 4, 0] →
      exec (.readConfig q [b, 4, 0]) s =
        .next { s with lnk := (s.lnk.afterTaken 0x1E q [b, 4, 0] ⟨.ok, [b, 4, 0] ++ littleEndian 2 c.statusMask.toNat, .none⟩) })
    ∧ ∀ x y z : Byte, 1 < x.toNat ∨ 4 < y.toNat ∨ (y ∈ [0, 4] ∧ z ≠ 0) ∨ (y = 1 ∧ 3 < z.toNat) ∨ (y ∈ [2, 3] ∧ 7 < z.toNat) →
      Takes s 0x1E q [x, y, z] →
        exec (.readConfig q [x, y, z]) s =
          .next { s with lnk := (s.lnk.afterTaken 0x1E q [x, y, z] ⟨.badArgument, [], .none⟩) })
    ∧ ∀ (s : State) (q : Byte), Takes s 0x1D q [] →
    exec (.revert q []) s = .next { s with
      lcu := { s.lcu with staged := s.lcu.active }
      lnk := s.lnk.afterTaken 0x1D q [] ⟨.ok, [], .none⟩ }

/-- The staged copy passes APPLY's validation exactly when, outside SETUP, it differs from the active copy in live fields alone,
and it meets every condition of R145 (R56, R101, R116, R145). Otherwise the violation found is the first: the live check outside
SETUP comes before the conditions, an object before those after it in the object order, and within an object the conditions come in
their order (R56, R116, R142, R145). A failed APPLY is answered INVALID_CONFIG with the code, object kind and index of the violation
found, and changes nothing but the link (R146). -/
def Obligations.ApplyJudgesTheStagedCopy : Prop :=
  (∀ s : State,
    let c := s.lcu.staged
    let a := s.lcu.active
    applyCheck s = none ↔
      (s.lcu.line ≠ .setup → c.motion = a.motion
        ∧ (∀ n, c.lanes.get n = { a.lanes.get n with
            defaultClass := (c.lanes.get n).defaultClass, announce := (c.lanes.get n).announce })
        ∧ (∀ n, c.stations.get n = { a.stations.get n with
            actionSet := (c.stations.get n).actionSet, patternLength := (c.stations.get n).patternLength,
            patternMask := (c.stations.get n).patternMask })
        ∧ ∀ n, c.outputs.get n = { a.outputs.get n with enabled := (c.outputs.get n).enabled })
      ∧ ¬ (c.motion.source = .pace ∧ c.motion.paceRate = 0)
      ∧ (∀ n, ((c.lanes.get n).mode = .leading → (c.lanes.get n).minLength = 0)
        ∧ ((c.lanes.get n).maxLength ≠ 0 → (c.lanes.get n).minLength ≤ (c.lanes.get n).maxLength))
      ∧ ∀ n, (c.stations.get n).kind ≠ .off →
        (c.lanes.get (c.stations.get n).lane).enabled = true
        ∧ (c.stations.get n).lead ≤ (c.stations.get n).offset + (c.stations.get n).fireDelay
        ∧ ((c.stations.get n).kind = .capture →
            ∃ k, k < (c.stations.get n).patternLength ∧ (c.stations.get n).patternMask.getLsbD k = true)
        ∧ (∀ m, (c.stations.get m).kind ≠ .off → (c.stations.get m).output = (c.stations.get n).output →
            (c.stations.get m).kind = (c.stations.get n).kind)
        ∧ (s.out.get (c.stations.get n).output).state ≠ .forced)
    ∧ (∀ (s : State) (v : Violation),
      applyCheck s = some v ↔ Violates s v ∧ ∀ w, Violates s w → w ≠ v → v.rank < w.rank)
    ∧ ∀ (s : State) (q : Byte) (v : Violation), Takes s 0x1F q [] → applyCheck s = some v →
    exec (.apply q []) s =
      .next { s with lnk := (s.lnk.afterTaken 0x1F q [] ⟨.invalidConfig, [v.code.code, v.object.code, byteOf v.index], .none⟩) }

/-- A successful APPLY makes the staged copy the active copy; each block acts on it in the same event: MOT caps the debt and
keeps the position, takes a new reference where the source becomes ENCODER and an accumulator of 0 where it becomes PACE, and
else keeps them, the accumulator brought up to now where the rate changes, with every overflow on the way still owed its forward
count, the model's own field (the catching up: notes/assumptions/21.md); DET re-initialises the lanes whose enabled, polarity or
mode changed, which can end a JAM; OUT re-drives the lines and ends what a disable ends, with the recovery time of the new copy
(the model's choice where the APPLY changes it, notes/assumptions/26.md) and the end notices, truncated, in ascending output
number (the model's order, notes/assumptions/12.md), and TRK's table, its counters and the reports are what these notices make;
TRK reduces the pattern counters (R67, R75, R90, R101, R128, R147). -/
def Obligations.ApplyMakesTheStagedCopyActive : Prop :=
  ∀ (s : State) (q : Byte), Takes s 0x1F q [] → applyCheck s = none → ∃ t, exec (.apply q []) s = .next t
    ∧ t.lcu = { s.lcu with active := s.lcu.staged, line := t.lcu.line }
    ∧ (t.lcu.line = s.lcu.line ∨ (s.lcu.line = .draining ∧ t.lcu.line = .setup ∧ t.trk.table = []))
    ∧ t.lnk = s.lnk.afterTaken 0x1F q [] ⟨.ok, [0, 0, 0], .none⟩
    ∧ t.mot = { s.mot with
        debt := min s.mot.debt (s.lcu.staged.motion.reverseLimit + 1)
        reference := t.mot.reference, accumulator := t.mot.accumulator, paceTime := t.mot.paceTime
        owedCounts := t.mot.owedCounts }
    ∧ (s.lcu.active.motion.source ≠ .encoder → s.lcu.staged.motion.source = .encoder →
        t.mot.reference = (s.pins.encA, s.pins.encB))
    ∧ (s.lcu.active.motion.source ≠ .pace → s.lcu.staged.motion.source = .pace →
        t.mot.accumulator = 0 ∧ t.mot.paceTime = s.now ∧ t.mot.owedCounts = 0)
    ∧ (∀ n, t.det.get n =
        let old := s.lcu.active.lanes.get n
        let new := s.lcu.staged.lanes.get n
        if old.enabled ≠ new.enabled ∨ (new.enabled = true ∧ (old.polarity ≠ new.polarity ∨ old.mode ≠ new.mode)) then
          { s.det.get n with
            candidate := none
            leading := none
            state := if new.enabled = true ∧ isCovered new.polarity (s.pins.det.get n) = true then .suppressed else .idle }
        else s.det.get n)
    ∧ (∀ n, t.out.get n =
        let new := s.lcu.staged.outputs.get n
        let o := s.out.get n
        let off := (s.lcu.active.outputs.get n).enabled = true ∧ new.enabled = false
        if off ∧ (o.state = .forced ∨ (o.state = .active ∧ o.pulse.isSome = true)) then
          { o.rested new s.now with
            truncated := o.truncated + (if o.state = .active then 1 else 0) }
        else { o with level := levelFor new.polarity o.state })
    ∧ (∀ n, t.trk.patterns.get n = s.trk.patterns.get n % (s.lcu.staged.stations.get n).patternLength)
    ∧ t.mot.reference = (if s.lcu.active.motion.source ≠ .encoder ∧ s.lcu.staged.motion.source = .encoder
        then (s.pins.encA, s.pins.encB) else s.mot.reference)
    ∧ (let old := s.lcu.active.motion
      let new := s.lcu.staged.motion
      let sum := s.mot.accumulator + (s.now - s.mot.paceTime) * old.paceRate
      (t.mot.accumulator, t.mot.paceTime, t.mot.owedCounts) =
        if new.source = .pace ∧ old.source ≠ .pace then (0, s.now, 0)
        else if new.source = .pace ∧ old.paceRate ≠ new.paceRate then
          (sum % 1000000, max s.now s.mot.paceTime, s.mot.owedCounts + sum / 1000000)
        else (s.mot.accumulator, s.mot.paceTime, s.mot.owedCounts))
    ∧ (let ends (n : OutputId) : Bool := (s.lcu.active.outputs.get n).enabled && !(s.lcu.staged.outputs.get n).enabled
          && (s.out.get n).state == .active
      let unjams (n : LaneId) : Bool :=
        let old := s.lcu.active.lanes.get n
        let new := s.lcu.staged.lanes.get n
        (s.det.get n).state == .blocked
          && decide (old.enabled ≠ new.enabled ∨ (new.enabled = true ∧ (old.polarity ≠ new.polarity ∨ old.mode ≠ new.mode)))
      let u := (allEight.filter ends).foldl
        (fun u n => endNotice (match (s.out.get n).pulse with | some p => p.attached | none => []) true u)
        { s with rpt := { s.rpt with latchDue := allLanes.any unjams } }
      t.trk = { u.trk with patterns := t.trk.patterns }
        ∧ t.lcu.line = u.lcu.line
        ∧ t = concluded { t with rpt := u.rpt })
    ∧ t.trk.nextTag = s.trk.nextTag ∧ t.trk.lanes = s.trk.lanes
    ∧ t.pending = s.pending ∧ t.now = s.now ∧ t.pins = s.pins ∧ t.requests = s.requests ∧ t.cmd = s.cmd ∧ t.drawn = s.drawn

/-! ### Verdicts, inspection, forcing -/

/-- VERDICT with 1 to 32 pairs begins: CMD is EXECUTING with the pairs in their order, no reply is queued, and nothing but the
link and CMD changes (R33, R34, R157, R158). That the row takes no pair, the first being a VERDICT_PAIR of its own, is the model's
reading (notes/assumptions/7.md). -/
def Obligations.VerdictBegins : Prop :=
  ∀ (s : State) (q : Byte) (pairs : List (Tag × Byte)), pairs ≠ [] → pairs.length ≤ 32 → Takes s 0x20 q (pairBytes pairs) →
    exec (.verdict q (pairBytes pairs)) s = .next { s with
      cmd := .judging ⟨0x20, q, frameCrc 0x20 q (pairBytes pairs), false⟩ pairs []
      lnk := { s.lnk.counted with lastTaken := some q } }

/-- VERDICT_PAIR takes the next pair at TRK by the rules of a pair and changes no outcome, no output and no report; after the
last pair CMD queues the reply with one result a pair, or drops it after a link reset, and, IDLE again, takes the waiting frames it
can (FramesWaitInTheReceiveQueue says how; none where none waits). Every pair falls under a rule (R32, R34 to R41, R157, R165). -/
def Obligations.VerdictPairFollowsItsRule : Prop :=
  (∀ (s : State) (c : Taken) (t : Tag) (b : Byte) (left : List (Tag × Byte)) (results : List Result),
    s.cmd = .judging c ((t, b) :: left) results → Settled s → TableInv s →
    ∀ (r : Result) (k : Trk), PairRule s.trk t b r k →
    (left ≠ [] → exec .verdictPair s = .next { s with trk := k, cmd := .judging c left (results ++ [r]) })
    ∧ (left = [] → c.discard = false → exec .verdictPair s = .next (takeFrames s.lnk.received.length { s with
        trk := k
        cmd := .idle
        lnk := ({ s.lnk with
          cache := some ⟨c.seq, c.crc, [c.kind, 0, byteOf (results.length + 1)] ++ (results ++ [r]).map Result.code⟩ }.withReply
          ⟨c.seq, [c.kind, 0, byteOf (results.length + 1)] ++ (results ++ [r]).map Result.code, .none⟩) }))
    ∧ (left = [] → c.discard = true →
      exec .verdictPair s = .next (takeFrames s.lnk.received.length { s with trk := k, cmd := .idle })))
    ∧ ∀ (k : Trk) (t : Tag) (b : Byte), ∃ r k', PairRule k t b r k'

/-- READ_ITEM returns the record of the item holding the tag, with the commit point and start position of each of its stations;
without one NOT_FOUND, and for tag 0 BAD_ARGUMENT. Only the link changes (R57, R193, R204). -/
def Obligations.ReadItemReturnsTheRecord : Prop :=
  ∀ (s : State) (q low high : Byte), Takes s 0x21 q [low, high] →
    (∀ (index : Nat) (i : Item), s.trk.table[index]? = some i → TableInv s → i.tag = high ++ low →
      exec (.readItem q [low, high]) s = .next { s with lnk := (s.lnk.afterTaken 0x21 q [low, high]
        ⟨.ok, byteOf index :: low :: high :: byteOf i.lane.val :: positionBytes i.creation ++ positionBytes i.reference
          ++ lengthBytes i.length
          ++ [byteOf (bitsOf [i.overlong, i.length.isSome, i.amended, i.late.isSome]), i.verdict.code,
              classByte i.verdict.class?, classByte i.late, byteOf i.entries.length]
          ++ i.entries.flatMap (fun e =>
            let x := s.lcu.active.stations.get e.station
            [byteOf e.station.val, e.outcome.code, e.outcome.causeCode,
              byteOf (bitsOf [e.merged, e.lateStart, e.truncated])]
              ++ positionBytes (i.reference + x.offset + x.fireDelay - x.lead)
              ++ positionBytes (i.reference + x.offset + x.fireDelay)), .none⟩) })
    ∧ (¬ (low = 0 ∧ high = 0) → (∀ i ∈ s.trk.table, i.tag ≠ high ++ low) →
      exec (.readItem q [low, high]) s = .next { s with lnk := (s.lnk.afterTaken 0x21 q [low, high] ⟨.notFound, [], .none⟩) })
    ∧ (low = 0 → high = 0 →
      exec (.readItem q [low, high]) s =
        .next { s with lnk := (s.lnk.afterTaken 0x21 q [low, high] ⟨.badArgument, [], .none⟩) })

/-- LIST_ITEMS returns the occupancy, the summaries of the first 16 items of the scope from the index upward, and whether more
follow; a scope or index outside its range is answered BAD_ARGUMENT. Only the link changes (R194, R203). -/
def Obligations.ListItemsReturnsSummaries : Prop :=
  ∀ (s : State) (q b k : Byte), Takes s 0x22 q [b, k] →
    (∀ scope : Option LaneId, b = (match scope with | none => 0xFF | some n => byteOf n.val) → k.toNat ≤ 127 →
      let found := (s.trk.table.zipIdx.drop k.toNat).filter fun x => scope.all fun n => x.1.lane == n
      exec (.listItems q [b, k]) s = .next { s with lnk := (s.lnk.afterTaken 0x22 q [b, k]
        ⟨.ok, [byteOf s.trk.table.length, byteOf (min 16 found.length), boolByte (decide (16 < found.length))]
          ++ (found.take 16).flatMap (fun x =>
            byteOf x.2 :: littleEndian 2 x.1.tag.toNat ++ byteOf x.1.lane.val :: positionBytes x.1.reference
              ++ [x.1.verdict.code, byteOf (x.1.entries.filter fun e => !e.outcome.isFinal).length]), .none⟩) })
    ∧ ((3 < b.toNat ∧ b ≠ 0xFF) ∨ 127 < k.toNat →
      exec (.listItems q [b, k]) s = .next { s with lnk := (s.lnk.afterTaken 0x22 q [b, k] ⟨.badArgument, [], .none⟩) })

/-- FORCE_OUTPUT by the output's state. ON: an IDLE output enters FORCED with its line active, a FORCED one stays. OFF: a FORCED
output goes inactive and enters RECOVERY, or IDLE when the recovery time is 0; IDLE and RECOVERY stay. PULSE d: an IDLE or
FORCED output begins a forced pulse, its end time d microseconds on, with nothing attached, the max-on timer if the max-on time
is not 0, and STARTED counted. Otherwise the output is BUSY and nothing changes but the link (R75, R94). FORCE_OUTPUT's refusals
come in the order of R94: BAD_ARGUMENT for an output above 7, an action above 2 or a PULSE of duration 0, then WRONG_STATE for
an output that is disabled or named by a station. They change nothing but the link. -/
def Obligations.ForceOutputActsByState : Prop :=
  ((∀ (s : State) (q : Byte) (n : OutputId) (d1 d2 : Byte), MayForce s n → Takes s 0x28 q [byteOf n.val, 1, d1, d2] →
    ((s.out.get n).state = .idle → exec (.forceOutputOn q (byteOf n.val) [d1, d2]) s = .next { s with
      out := s.out.set n { s.out.get n with state := .forced, level := activeLevel (s.lcu.active.outputs.get n).polarity }
      lnk := s.lnk.afterTaken 0x28 q [byteOf n.val, 1, d1, d2] ⟨.ok, [], .none⟩ })
    ∧ ((s.out.get n).state = .forced →
      exec (.forceOutputOn q (byteOf n.val) [d1, d2]) s =
        .next { s with lnk := (s.lnk.afterTaken 0x28 q [byteOf n.val, 1, d1, d2] ⟨.ok, [], .none⟩) })
    ∧ ((s.out.get n).state = .active ∨ (s.out.get n).state = .recovery →
      exec (.forceOutputOn q (byteOf n.val) [d1, d2]) s =
        .next { s with lnk := (s.lnk.afterTaken 0x28 q [byteOf n.val, 1, d1, d2] ⟨.busy, [], .none⟩) }))
    ∧ (∀ (s : State) (q : Byte) (n : OutputId) (d1 d2 : Byte), MayForce s n → Takes s 0x28 q [byteOf n.val, 0, d1, d2] →
    let x := s.lcu.active.outputs.get n
    ((s.out.get n).state = .forced → exec (.forceOutputOff q (byteOf n.val) [d1, d2]) s = .next { s with
      out := s.out.set n ((s.out.get n).rested x s.now)
      lnk := s.lnk.afterTaken 0x28 q [byteOf n.val, 0, d1, d2] ⟨.ok, [], .none⟩ })
    ∧ ((s.out.get n).state = .idle ∨ (s.out.get n).state = .recovery →
      exec (.forceOutputOff q (byteOf n.val) [d1, d2]) s =
        .next { s with lnk := (s.lnk.afterTaken 0x28 q [byteOf n.val, 0, d1, d2] ⟨.ok, [], .none⟩) })
    ∧ ((s.out.get n).state = .active →
      exec (.forceOutputOff q (byteOf n.val) [d1, d2]) s =
        .next { s with lnk := (s.lnk.afterTaken 0x28 q [byteOf n.val, 0, d1, d2] ⟨.busy, [], .none⟩) }))
    ∧ ∀ (s : State) (q : Byte) (n : OutputId) (d1 d2 : Byte), MayForce s n → ¬ (d1 = 0 ∧ d2 = 0) →
    Takes s 0x28 q [byteOf n.val, 2, d1, d2] →
    let x := s.lcu.active.outputs.get n
    ((s.out.get n).state = .idle ∨ (s.out.get n).state = .forced →
      exec (.forceOutputPulse q (byteOf n.val) [d1, d2]) s = .next { s with
        out := s.out.set n { s.out.get n with
          state := .active
          level := activeLevel x.polarity
          pulse := some ⟨none, some (s.now + (d1.toNat + 256 * d2.toNat)), []⟩
          maxOn := if x.maxOn = 0 then none else some (s.now + 1000 * x.maxOn)
          recovery := none
          started := (s.out.get n).started + 1 }
        lnk := s.lnk.afterTaken 0x28 q [byteOf n.val, 2, d1, d2] ⟨.ok, [], .none⟩ })
    ∧ ((s.out.get n).state = .active ∨ (s.out.get n).state = .recovery →
      exec (.forceOutputPulse q (byteOf n.val) [d1, d2]) s =
        .next { s with lnk := (s.lnk.afterTaken 0x28 q [byteOf n.val, 2, d1, d2] ⟨.busy, [], .none⟩) }))
    ∧ ∀ (s : State) (c : Instr) (q o a d1 d2 : Byte), frameOfRow c = some (0x28, q, [o, a, d1, d2]) →
    Takes s 0x28 q [o, a, d1, d2] →
    (7 < o.toNat ∨ 2 < a.toNat ∨ (a = 2 ∧ d1 = 0 ∧ d2 = 0) →
      exec c s = .next { s with lnk := (s.lnk.afterTaken 0x28 q [o, a, d1, d2] ⟨.badArgument, [], .none⟩) })
    ∧ ∀ n : OutputId, o = byteOf n.val → a.toNat ≤ 2 → ¬ (a = 2 ∧ d1 = 0 ∧ d2 = 0) → ¬ MayForce s n →
      exec c s = .next { s with lnk := s.lnk.afterTaken 0x28 q [o, a, d1, d2] ⟨.wrongState, [], .none⟩ }

/-! ### Motion -/

/-- ADVANCE n begins under HOST_STEP: CMD is EXECUTING with n counts to make from the present microsecond on, and no reply is queued.
An n of 0 is answered BAD_ARGUMENT, and another source WRONG_STATE (R105, R106, R157). That the row itself makes no count, the first
being an ADVANCE_COUNT of its own, is the model's reading (notes/assumptions/7.md), and that CMD holds the microsecond its choice
(notes/assumptions/3.md). ADVANCE_END: after its last count an ADVANCE is answered with the track position and the forward ticks
made, or its reply is dropped after a link reset, and CMD, IDLE again, takes the waiting frames it can (FramesWaitInTheReceiveQueue
says how; none where none waits) (R106, R107, R157, R165). -/
def Obligations.AdvanceBeginsAndEnds : Prop :=
  (∀ (s : State) (q low high : Byte), Takes s 0x29 q [low, high] →
    (¬ (low = 0 ∧ high = 0) → s.lcu.active.motion.source = .hostStep → exec (.advance q [low, high]) s = .next { s with
      cmd := .advancing ⟨0x29, q, frameCrc 0x29 q [low, high], false⟩ s.now (low.toNat + 256 * high.toNat) 0 0
      lnk := { s.lnk.counted with lastTaken := some q } })
    ∧ (low = 0 → high = 0 →
      exec (.advance q [low, high]) s = .next { s with lnk := (s.lnk.afterTaken 0x29 q [low, high] ⟨.badArgument, [], .none⟩) })
    ∧ (¬ (low = 0 ∧ high = 0) → s.lcu.active.motion.source ≠ .hostStep →
      exec (.advance q [low, high]) s = .next { s with lnk := (s.lnk.afterTaken 0x29 q [low, high] ⟨.wrongState, [], .none⟩) }))
    ∧ ∀ (s : State) (c : Taken) (since made ticks : Nat), s.cmd = .advancing c since 0 made ticks → Settled s →
    let reply := [c.kind, 0] ++ positionBytes s.mot.position ++ littleEndian 2 ticks
    (c.discard = false → exec .advanceEnd s = .next (takeFrames s.lnk.received.length { s with
      cmd := .idle
      lnk := { s.lnk with cache := some ⟨c.seq, c.crc, reply⟩ }.withReply ⟨c.seq, reply, .none⟩ }))
    ∧ (c.discard = true → exec .advanceEnd s = .next (takeFrames s.lnk.received.length { s with cmd := .idle }))

/-- ADVANCE_COUNT repays debt, or is a forward tick (what a tick does is TickWithNothingDueChangesMotionAlone's), and is counted in the
ADVANCE in execution; the count after k others falls k half microseconds after the ADVANCE was taken (R106, R108). That the time base
is carried forward to the whole microsecond of that time, and stays where it already stands beyond it, is the model's choice
(notes/assumptions/3.md), and so is the order of the tick as an operand (notes/assumptions/4.md). -/
def Obligations.AdvanceCountRepaysOrTicks : Prop :=
  ∀ (s : State) (o : TickOrder) (c : Taken) (since remaining made ticks : Nat),
    s.cmd = .advancing c since (remaining + 1) made ticks → Settled s →
    let now' := max s.now (since + made / 2)
    (0 < s.mot.debt → exec (.advanceCount o) s = .next (endEvent { s with
      now := now'
      cmd := .advancing c since remaining (made + 1) ticks
      mot := { s.mot with debt := s.mot.debt - 1 }
      rpt := { s.rpt with latchDue := decide (s.mot.debt = 1) } }))
    ∧ (s.mot.debt = 0 → s.mot.position + 1 < 2 ^ 48 →
      let t := endEvent (forwardTick o { s with now := now', cmd := .advancing c since remaining (made + 1) (ticks + 1) })
      exec (.advanceCount o) s = .next t
        ∧ TickTaken { s with now := now' } t ∧ t.cmd = .advancing c since remaining (made + 1) (ticks + 1))

/-- ENCODER_TRANSITION under ENCODER: one changed input makes one count of the table's direction, exchanged by invert; a forward
count repays debt, with no further change, or is a forward tick (what a tick does is TickWithNothingDueChangesMotionAlone's); a
reverse count below the limit raises the debt, with no further change, and one at the limit or beyond it is the reverse count of
ReverseCountAtTheLimit, with the TRACK_LOST it can be. REVERSE is passed to the latch when the debt leaves or reaches 0 (R102, R108,
R109, R112). A sample that equals the reference makes no count; one in which both inputs differ is an illegal transition: no count,
ILLEGAL counted, ENCODER_ERROR set, the sample the new reference (R102, R103); and under PACE or HOST_STEP only the levels on the pins
change, the model's reading (notes/assumptions/11.md). The order of a tick is the model's operand (notes/assumptions/4.md). -/
def Obligations.EncoderTransitionsMakeCounts : Prop :=
  (∀ (s : State) (o : TickOrder), ∀ row ∈ encoderTable, Quiet s → s.lcu.active.motion.source = .encoder →
    s.mot.reference = row.1 →
    let s' := { s with
      pins := { s.pins with encA := row.2.1.1, encB := row.2.1.2 }
      mot := { s.mot with reference := row.2.1 } }
    ((row.2.2 != s.lcu.active.motion.invert) = true → 0 < s.mot.debt →
      exec (.encoderTransition row.2.1.1 row.2.1.2 o) s = .next (endEvent { s' with
        mot := { s'.mot with debt := s.mot.debt - 1 }
        rpt := { s.rpt with latchDue := decide (s.mot.debt = 1) } }))
    ∧ ((row.2.2 != s.lcu.active.motion.invert) = true → s.mot.debt = 0 → s.mot.position + 1 < 2 ^ 48 →
      exec (.encoderTransition row.2.1.1 row.2.1.2 o) s = .next (endEvent (forwardTick o s'))
        ∧ TickTaken s' (endEvent (forwardTick o s')) ∧ (endEvent (forwardTick o s')).cmd = s.cmd)
    ∧ ((row.2.2 != s.lcu.active.motion.invert) = false → s.mot.debt < s.lcu.active.motion.reverseLimit →
      exec (.encoderTransition row.2.1.1 row.2.1.2 o) s = .next (endEvent { s' with
        mot := { s'.mot with debt := s.mot.debt + 1 }
        rpt := { s.rpt with latchDue := decide (s.mot.debt = 0) } }))
    ∧ ((row.2.2 != s.lcu.active.motion.invert) = false → s.lcu.active.motion.reverseLimit ≤ s.mot.debt →
      exec (.encoderTransition row.2.1.1 row.2.1.2 o) s = .next (endEvent (reverseCount s'))))
    ∧ ∀ (s : State) (o : TickOrder) (a b : Bool), Quiet s →
    let s' := { s with pins := { s.pins with encA := a, encB := b } }
    (s.lcu.active.motion.source ≠ .encoder ∨ s.mot.reference = (a, b) → exec (.encoderTransition a b o) s = .next s')
    ∧ (s.lcu.active.motion.source = .encoder → s.mot.reference = (!a, !b) →
      exec (.encoderTransition a b o) s = .next (endEvent { s' with
        mot := { s.mot with reference := (a, b), illegal := s.mot.illegal + 1, encoderError := true }
        rpt := { s.rpt with latchDue := !s.mot.encoderError } }))

/-- A reverse count at the reverse limit, which EncoderTransitionsMakeCounts ties to its row: in SETUP and HALTED the debt is capped without a fault, and beyond the limit it
stands. In RUN and DRAINING TRACK_LOST is declared: the debt is the limit plus one, the FAULT report with the track position and
the debt is passed first, RUN enters HALTED and DRAINING enters SETUP, and every item is purged, cause TRACK_LOST, with its
ITEM_DONE in table order; the track position and the pattern counters stand (R24, R27, R92, R108, R109, R139). -/
def Obligations.ReverseCountAtTheLimit : Prop :=
  ∀ s : State, let limit := s.lcu.active.motion.reverseLimit
    (s.mot.debt = limit → s.lcu.line = .setup ∨ s.lcu.line = .halted →
      reverseCount s = { s with
        mot := { s.mot with debt := limit + 1 }
        rpt := { s.rpt with latchDue := s.rpt.latchDue || decide (limit = 0) } })
    ∧ (limit < s.mot.debt → reverseCount s = s)
    ∧ (s.mot.debt = limit → s.lcu.line = .run ∨ s.lcu.line = .draining → TableInv s → OutcomeListInv s →
      let u := passFault (.trackLost s.mot.position (limit + 1)) { s with mot := { s.mot with debt := limit + 1 } }
      reverseCount s = State.afterPurge .trackLost none { u with
        lcu := { s.lcu with line := if s.lcu.line = .run then .halted else .setup }
        rpt := { u.rpt with latchDue := true } })
    ∧ (s.mot.debt = limit → s.lcu.line = .run ∨ s.lcu.line = .draining →
      (reverseCount s).mot = { s.mot with debt := limit + 1 }
      ∧ (reverseCount s).trk.table = []
      ∧ (reverseCount s).lcu.line = (if s.lcu.line = .run then .halted else .setup)
      ∧ KeepsBeyondTracking { s with mot := { s.mot with debt := limit + 1 } } (reverseCount s)
      ∧ KeepsCounts s (reverseCount s))

/-- PACE_COUNT: the accumulator gains the pace rate at each microsecond until it overflows, 1,000,000 is subtracted, and one
forward count is made at that microsecond (R104, R108); what a tick does is TickWithNothingDueChangesMotionAlone's. An overflow that
the accumulator already had when an APPLY changed the rate makes its forward count first, and the accumulator stands (R101, R104), by
the model's own record of it (notes/assumptions/21.md). The microseconds passed are the model's reading of the event, and so is that
the row changes nothing where the generator does not run (notes/assumptions/3.md); the order of the tick is its operand
(notes/assumptions/4.md). -/
def Obligations.PaceCountOverflows : Prop :=
  ∀ (s : State) (o : TickOrder), Quiet s →
    let r := s.lcu.active.motion.paceRate
    let counts (s' : State) : Prop :=
      (0 < s.mot.debt → exec (.paceCount o) s = .next (endEvent { s' with
        mot := { s'.mot with debt := s.mot.debt - 1 }
        rpt := { s.rpt with latchDue := decide (s.mot.debt = 1) } }))
      ∧ (s.mot.debt = 0 → s.mot.position + 1 < 2 ^ 48 →
        exec (.paceCount o) s = .next (endEvent (forwardTick o s'))
          ∧ TickTaken s' (endEvent (forwardTick o s')) ∧ (endEvent (forwardTick o s')).cmd = s.cmd)
    (s.lcu.active.motion.source = .pace → s.mot.owedCounts = 0 →
      ∀ k : Nat, 0 < k → s.mot.accumulator + (k - 1) * r < 1000000 → 1000000 ≤ s.mot.accumulator + k * r →
      counts { s with
        now := max s.now (s.mot.paceTime + k)
        mot := { s.mot with accumulator := s.mot.accumulator + k * r - 1000000, paceTime := s.mot.paceTime + k } })
    ∧ (s.lcu.active.motion.source = .pace → r ≠ 0 → 0 < s.mot.owedCounts →
      counts { s with mot := { s.mot with owedCounts := s.mot.owedCounts - 1 } })
    ∧ (s.lcu.active.motion.source ≠ .pace ∨ r = 0 → exec (.paceCount o) s = .next s)

/-- STANDSTILL_EXPIRY stops the timer and makes MOTION STOPPED, a change passed to the latch; without a running timer it changes
nothing (R111). That the row carries the time base forward to the expiry is the model's choice (notes/assumptions/3.md). -/
def Obligations.StandstillExpiryStopsMotion : Prop :=
  ∀ s : State, Quiet s →
    (∀ e, s.mot.standstill = some e → exec .standstillExpiry s = .next (endEvent { s with
      now := max s.now e
      mot := { s.mot with standstill := none, moving := false }
      rpt := { s.rpt with latchDue := s.mot.moving } }))
    ∧ (s.mot.standstill = none → exec .standstillExpiry s = .next s)

/-- A forward tick at which nothing is due changes MOT alone: the position is one more, MOTION is MOVING, the standstill timer
runs anew, and a change of MOTION is passed to the latch (R98, R99, R108, R111). What is due is taken: after MOT's changes the
lanes make the overlong test (R124), each output takes the tick once, before TRK or after it, and TRK commits every WAIT entry whose
commit point stands at the new position, in table order and ascending station number, each with its retirement check (R16, R23).
An output takes the start event of every pending entry that starts at the new position, in list order, none of them late, and its
end event after the first k of them (R79, R84, R88). The order in which TRK and the outputs take the tick, and k, are the model's
operand, every order being one (notes/assumptions/4.md). -/
def Obligations.TickWithNothingDueChangesMotionAlone : Prop :=
  (∀ (s : State) (o : TickOrder), NothingDue s → s.mot.position + 1 < 2 ^ 48 →
    forwardTick o s = { s with
      mot := { s.mot with
        position := s.mot.position + 1
        moving := true
        standstill := some (s.now + 1000 * s.lcu.active.motion.standstill) }
      rpt := { s.rpt with latchDue := s.rpt.latchDue || !s.mot.moving } })
    ∧ (∀ (s : State) (o : TickOrder), s.mot.position + 1 < 2 ^ 48 →
      let moved : State := { s with
        mot := { s.mot with
          position := s.mot.position + 1
          moving := true
          standstill := some (s.now + 1000 * s.lcu.active.motion.standstill) }
        rpt := { s.rpt with latchDue := s.rpt.latchDue || !s.mot.moving } }
      let takes (u : State) (n : OutputId) : State := tickOutput (o.startsFirst.get n) n u
      forwardTick o s = (outputsAfter o).foldl takes
        (tickTracking ((outputsBefore o).foldl takes (allLanes.foldl overlongTest moved))))
    ∧ (∀ o : TickOrder, (outputsBefore o ++ outputsAfter o).Perm allEight
      ∧ ((o.before ++ o.after).Perm allEight → outputsBefore o = o.before ∧ outputsAfter o = o.after))
    ∧ (∀ s : State, TableInv s → OutcomeListInv s → ∃ l, DueCommits s l
      ∧ tickTracking s = l.foldl (fun u p => retireIfDone p.1 (commitEntry p.1 p.2 u)) s)
    ∧ ∀ (s : State) (n : OutputId) (k : Nat) (past due later : List Request),
      (s.out.get n).waiting = past ++ due ++ later → (∀ r ∈ past, r.start < s.mot.position) →
      (∀ r ∈ due, r.start = s.mot.position) → (∀ r ∈ later, s.mot.position < r.start) →
      let starts (rs : List Request) (u : State) : State := rs.foldl (fun u r => takeStart n false r u) u
      tickOutput k n s = starts (due.drop k) (tickEnd n (starts (due.take k) s))

/-! ### The link -/

/-- CHARACTER_RECEIVED by the receiver's state: HUNT looks for 0xA5 and counts noise, LENGTH takes a LEN of 2 to 250, BODY and
CRC store; during a break no character is taken (R152, R153, R164). A frame whose CRC agrees is taken as the frame its bytes
are. -/
def Obligations.CharactersAdvanceTheReceiver : Prop :=
  ∀ (s : State) (v : Byte), Quiet s →
    (s.lnk.broken = true → ∀ stop, exec (.characterReceived v stop) s = .next s)
    ∧ (s.lnk.broken = false → s.lnk.receiver = .hunt →
        (v = 0xA5 → exec (.characterReceived v false) s = .next { s with lnk := { s.lnk with receiver := .length } })
        ∧ (∀ stop, v ≠ 0xA5 ∨ stop = true → exec (.characterReceived v stop) s = .next { s with lnk := ({ s.lnk with
            counters := { s.lnk.counters with noise := s.lnk.counters.noise + 1 } }) }))
    ∧ (s.lnk.broken = false → s.lnk.receiver = .length → 2 ≤ v.toNat → v.toNat ≤ 250 →
        exec (.characterReceived v false) s = .next { s with lnk := { s.lnk with receiver := .body v [] } })
    ∧ (∀ (len : Byte) (stored : List Byte), s.lnk.receiver = .body len stored → s.lnk.broken = false →
        exec (.characterReceived v false) s = .next { s with lnk := ({ s.lnk with
          receiver := if stored.length + 1 < len.toNat then .body len (stored ++ [v]) else .crc len (stored ++ [v]) none }) })
    ∧ (∀ (len : Byte) (stored : List Byte), s.lnk.receiver = .crc len stored none → s.lnk.broken = false →
        exec (.characterReceived v false) s = .next { s with lnk := { s.lnk with receiver := .crc len stored (some v) } })
    ∧ ∀ (kind seq low : Byte) (payload : List Byte),
        s.lnk.receiver = .crc (byteOf (payload.length + 2)) (kind :: seq :: payload) (some low) →
        s.lnk.broken = false → payload.length ≤ 248 →
        v ++ low = frameCrc kind seq payload →
        exec (.characterReceived v false) s =
          .next (receiveFrame kind seq payload { s with lnk := { s.lnk with receiver := .hunt } })

/-- The frame errors of the receiver: a LEN below 2 or above 250, a CRC that disagrees, a framing error outside HUNT, and the
expiry of the gap timer outside HUNT. Each drops the partial frame and counts its cause; out of hold it enters hold with a
notice. The gap timer's expiry in HUNT, or during a break, changes nothing (R152, R153, R154, R155, R161, R164). -/
def Obligations.FrameErrorsEnterHold : Prop :=
  ∀ s : State, Quiet s →
    (s.lnk.broken = false → s.lnk.receiver = .length → ∀ v : Byte, v.toNat < 2 ∨ 250 < v.toNat →
      exec (.characterReceived v false) s = .next (s.afterError .length))
    ∧ (s.lnk.broken = false → ∀ (len : Byte) (stored : List Byte) (low : Byte), s.lnk.receiver = .crc len stored (some low) →
      ∀ v : Byte, crcOf (len :: stored) ≠ v ++ low →
      exec (.characterReceived v false) s = .next (s.afterError .crc))
    ∧ (s.lnk.broken = false → s.lnk.receiver ≠ .hunt →
      (∀ v : Byte, exec (.characterReceived v true) s = .next (s.afterError .character))
      ∧ exec .gapTimerExpiry s = .next (s.afterError .truncated))
    ∧ (s.lnk.receiver = .hunt ∨ s.lnk.broken = true → exec .gapTimerExpiry s = .next s)

/-- The characters of a whole frame, one after another from HUNT, are the frame's row (R152, R156, R196). -/
def Obligations.CharactersSpellTheFrame : Prop :=
  ∀ (s : State) (c : Instr) (k q : Byte) (p : List Byte), frameOfRow c = some (k, q, p) → p.length ≤ 248 → Quiet s →
    s.lnk.receiver = .hunt → s.lnk.broken = false →
    execAll ((wireBytes k q p).map fun b => .characterReceived b false) s = exec c s

/-- BREAK is a link reset: receiver to HUNT, both queues, the notice slot and the reply cache emptied, hold cleared, a reply in
execution to be discarded, the reports returned to pending and W set to 0, with BREAKS counted and the frame in transmission
left to its end; if it discards a RESET_PART's reply, the part is reset at its rate (R149, R164, R165, R179), the pins, the time base
and the waiting commands being kept by the model (notes/assumptions/20.md). That a BREAK row resets the link also where no
BREAK_RECOGNISED came before is the model's choice (notes/assumptions/8.md). BREAK_RECOGNISED discards a frame being received,
uncounted, and closes the receiver until the line returns to mark (R164). -/
def Obligations.BreakResetsTheLink : Prop :=
  (∀ s : State, s.rpt.latchDue = false →
    (¬ (s.cmd = .closed ∧ ∃ r ∈ s.lnk.replies, r.effect = .partReset) →
      exec .linkBreak s = .next
        (let t := { s with
          cmd := (match s.cmd with
            | .advancing c since remaining made ticks => .advancing { c with discard := true } since remaining made ticks
            | .judging c left results => .judging { c with discard := true } left results
            | x => x)
          lnk := ({ s.lnk with
            receiver := .hunt, broken := false, received := [], replies := [], notice := none, hold := false, cache := none
            counters := { s.lnk.counters with breaks := s.lnk.counters.breaks + 1 } })
          rpt := { s.rpt with queue := s.rpt.queue.map (fun e : ReportEntry => { e with sent := false }), window := 0 } }
        { t with rpt := { t.rpt with attention := t.attentionDue } }))
    ∧ (s.cmd = .closed → (∃ r ∈ s.lnk.replies, r.effect = .partReset) →
      exec .linkBreak s = .next { s with
        lcu := .reset
        mot := .reset (s.pins.encA, s.pins.encB) s.now
        det := Quad.same .reset
        requests := []
        trk := .reset
        out := Oct.same .reset
        lnk := { Lnk.reset s.lnk.rate with sending := s.lnk.sending }
        cmd := .idle
        rpt := .reset }))
    ∧ ∀ s : State, Quiet s →
    exec .breakRecognised s = .next { s with lnk := { s.lnk with receiver := .hunt, broken := true } }

/-- FRAME_TRANSMIT_END: the reply's rate is in force, and the receiver in HUNT, from the last byte of a SET_LINK reply; then the
notice, the oldest reply, or the oldest pending report while the window has room begins, in that order; and where a reply left the
reply queue that CMD found full, CMD takes the waiting frames it then can (R157; FramesWaitInTheReceiveQueue says how). The last byte
of a RESET_PART reply resets the part at its rate (R148, R149, R151, R166, R176); that a break in progress outlives it is the model's
choice (notes/assumptions/8.md), and that the pins, the time base and the waiting commands stay is its reading
(notes/assumptions/20.md). -/
def Obligations.TransmitEndBeginsTheNextFrame : Prop :=
  ∀ (s : State) (tx : Transmission), s.lnk.sending = some tx → Settled s →
    let l := match tx.effect with
      | .setRate c => { s.lnk with rate := c, receiver := .hunt, sending := none }
      | _ => { s.lnk with sending := none }
    let andTakes (t : State) : State := takeFrames s.lnk.received.length t
    (∀ n : Notice, s.lnk.notice = some n → tx.effect ≠ .partReset →
      exec .frameTransmitEnd s = .next (andTakes
        { s with lnk := { l with notice := none, sending := some ⟨0xE0, 0, n.payload, .none⟩ } }))
    ∧ (∀ (r : Reply) (rs : List Reply), s.lnk.replies = r :: rs → s.lnk.notice = none → tx.effect ≠ .partReset →
      exec .frameTransmitEnd s = .next (andTakes { s with lnk := ({ l with
        replies := rs, sending := some ⟨0x80, r.seq, r.payload, r.effect⟩ }) }))
    ∧ (∀ (old rest : List ReportEntry) (e : ReportEntry), s.rpt.queue = old ++ e :: rest → tx.effect ≠ .partReset →
      s.lnk.notice = none → s.lnk.replies = [] → (∀ x ∈ old, x.sent = true) → e.sent = false →
      (s.rpt.queue.filter fun x => x.sent).length < s.rpt.window →
      exec .frameTransmitEnd s = .next (andTakes
        (let t := { s with
          lnk := { l with sending := some ⟨e.body.kindCode, 0, e.payload, .none⟩ }
          rpt := { s.rpt with queue := old ++ { e with sent := true, onceSent := true } :: rest } }
        { t with rpt := { t.rpt with attention := t.attentionDue } })))
    ∧ (tx.effect ≠ .partReset → s.lnk.notice = none → s.lnk.replies = [] →
      s.rpt.window ≤ (s.rpt.queue.filter fun x => x.sent).length ∨ (∀ x ∈ s.rpt.queue, x.sent = true) →
      exec .frameTransmitEnd s = .next (andTakes { s with lnk := l }))
    ∧ (tx.effect = .partReset → exec .frameTransmitEnd s = .next { s with
      lcu := .reset
      mot := .reset (s.pins.encA, s.pins.encB) s.now
      det := Quad.same .reset
      requests := []
      trk := .reset
      out := Oct.same .reset
      lnk := { Lnk.reset s.lnk.rate with broken := s.lnk.broken }
      cmd := .idle
      rpt := .reset })

/-! ### Detectors -/

/-- A sample of a lane's input. At the expected level it drops the candidate, if there is one; at the other it starts a candidate
stamped with the track position where there is none, and a debounce of 0 accepts it at once (R117, R118, R119). That
DETECTOR_REVERT is the sample at the expected level, and that at a disabled lane only the level on the pin changes, are the model's
readings (notes/assumptions/10.md). -/
def Obligations.DetectorSamplesMakeCandidates : Prop :=
  ∀ (s : State) (n : LaneId) (level : Bool), Quiet s →
    let x := s.lcu.active.lanes.get n
    let l := s.det.get n
    let atLevel (b : Bool) : State := { s with pins := { s.pins with det := s.pins.det.set n b } }
    let expected := (x.polarity == .activeHigh) == (l.state != .idle)
    (x.enabled = false → exec (.detectorRawChange n level) s = .next (atLevel level)
      ∧ exec (.detectorRevert n) s = .next (atLevel expected))
    ∧ (x.enabled = true →
      exec (.detectorRevert n) s = .next { atLevel expected with det := s.det.set n { l with candidate := none } }
      ∧ (level = expected → exec (.detectorRawChange n level) s =
          .next { atLevel level with det := s.det.set n { l with candidate := none } })
      ∧ (level ≠ expected → l.candidate.isSome = true → exec (.detectorRawChange n level) s = .next (atLevel level))
      ∧ (level ≠ expected → l.candidate = none → x.debounce ≠ 0 → exec (.detectorRawChange n level) s =
          .next { atLevel level with
            det := s.det.set n { l with candidate := some ⟨level, s.mot.position, s.now + x.debounce⟩ } })
      ∧ (level ≠ expected → l.candidate = none → x.debounce = 0 → exec (.detectorRawChange n level) s =
          exec (.debounceExpiry n) { atLevel level with
            det := s.det.set n { l with candidate := some ⟨level, s.mot.position, s.now⟩ } }))

/-- DEBOUNCE_EXPIRY accepts the candidate's edge at its edge position, by the lane's state: IDLE enters PRESENT, with a creation
request under LEADING, or SUPPRESSED within the holdoff; PRESENT enters IDLE, and under TRAILING and CENTRE is a runt or makes a
creation request; SUPPRESSED and BLOCKED enter IDLE, and BLOCKED ends JAM (R121, R122, R123, R125, R126). That the row carries the
time base forward to the expiry is the model's choice (notes/assumptions/3.md), and so is that a trailing edge at or beyond the max
length in PRESENT ends an object like any other (notes/assumptions/24.md). The overlong test at a forward tick: a PRESENT object at
least M long, with no trailing candidate from short of the limit, makes the lane BLOCKED and OVERLONG counted, and under TRAILING
and CENTRE makes a creation request of length M, overlong; otherwise nothing changes (R124, R126). -/
def Obligations.EdgesAndOverlongMoveTheLane : Prop :=
  (∀ (s : State) (n : LaneId), Quiet s →
    let x := s.lcu.active.lanes.get n
    let l := s.det.get n
    (l.candidate = none → exec (.debounceExpiry n) s = .next s)
    ∧ ∀ c : Candidate, l.candidate = some c →
      let at' (k : Lane) : State := { s with now := max s.now c.expiry, det := s.det.set n { k with candidate := none } }
      (l.state = .idle → (∃ p ∈ l.lastLeading, c.edge < p + x.holdoff) →
        exec (.debounceExpiry n) s = .next (at' { l with state := .suppressed, suppressed := l.suppressed + 1 }))
      ∧ (l.state = .idle → (∀ p ∈ l.lastLeading, p + x.holdoff ≤ c.edge) →
        exec (.debounceExpiry n) s = .next
          { at' { l with state := .present, leading := some c.edge, lastLeading := some c.edge } with
            requests := s.requests ++ (if x.mode = .leading then [⟨n, c.edge, none, false⟩] else []) })
      ∧ (∀ p, l.leading = some p → l.state = .present →
        (x.mode = .leading → exec (.debounceExpiry n) s = .next (at' { l with state := .idle, leading := none }))
        ∧ (x.mode ≠ .leading → c.edge - p < x.minLength →
          exec (.debounceExpiry n) s = .next (at' { l with state := .idle, leading := none, runt := l.runt + 1 }))
        ∧ (x.mode ≠ .leading → x.minLength ≤ c.edge - p →
          exec (.debounceExpiry n) s = .next { at' { l with state := .idle, leading := none } with
            requests := s.requests ++
              [⟨n, if x.mode = .trailing then c.edge else p + (c.edge - p) / 2, some (c.edge - p), false⟩] }))
      ∧ (l.state = .suppressed → exec (.debounceExpiry n) s = .next (at' { l with state := .idle }))
      ∧ (l.state = .blocked → exec (.debounceExpiry n) s =
          .next (endEvent { at' { l with state := .idle } with rpt := { s.rpt with latchDue := true } })))
    ∧ ∀ (s : State) (n : LaneId),
    let x := s.lcu.active.lanes.get n
    let l := s.det.get n
    (l.state ≠ .present ∨ x.maxLength = 0 → overlongTest s n = s)
    ∧ ∀ p, l.leading = some p → l.state = .present → x.maxLength ≠ 0 →
      ((∃ c ∈ l.candidate, c.edge < p + x.maxLength) ∨ s.mot.position < p + x.maxLength → overlongTest s n = s)
      ∧ ((∀ c ∈ l.candidate, p + x.maxLength ≤ c.edge) → p + x.maxLength ≤ s.mot.position →
        overlongTest s n = { s with
          det := s.det.set n { l with state := .blocked, leading := none, overlong := l.overlong + 1 }
          requests := s.requests ++ (match x.mode with
            | .leading => []
            | .trailing => [⟨n, p + x.maxLength, some x.maxLength, true⟩]
            | .centre => [⟨n, p + x.maxLength / 2, some x.maxLength, true⟩])
          rpt := { s.rpt with latchDue := true } })

/-! ### Tracking -/

/-- CREATION_REQUEST: TRK takes the lane's oldest request. Outside RUN it counts IGNORED; with a full table it counts LOST and
passes a TABLE_OVERFLOW; otherwise an item joins the table's end, with NONE as its verdict and a WAIT entry for each station of
its lane in ascending number, each CAPTURE station first reading its pattern, and TABLE_FULL is passed to the latch where the item
is the 128th (R6, R7, R8, R12, R13, R28, R29, R65). Then ITEM_NEW is passed where the lane announces (R26), every WAIT entry whose
commit point is at or behind the creation position is committed in ascending station number (R14, R60), and the retirement check
follows (R15). Where no commit point is behind and some entry is not skipped the item stays. The tag of a new item is the first
value not held by an item in the table, from the next-tag counter upward, 1 following 65535 (R5). That requests wait in a queue, that
the lane's oldest is taken, and that nothing changes where there is none, is the model's reading of R127 (notes/assumptions/6.md),
and that a lane left without stations makes an item with an empty list is its choice (notes/assumptions/22.md). -/
def Obligations.CreationRequestMakesAnItem : Prop :=
  (∀ (s : State) (n : LaneId), Quiet s →
    ((∀ r ∈ s.requests, r.lane ≠ n) → exec (.creationRequest n) s = .next s)
    ∧ ∀ (before after : List CreationRequest) (r : CreationRequest), s.requests = before ++ r :: after → r.lane = n →
      (∀ x ∈ before, x.lane ≠ n) →
      let s' := { s with requests := before ++ after }
      let counted (f : LaneCounters → LaneCounters) : State :=
        { s' with trk := { s.trk with lanes := s.trk.lanes.set n (f (s.trk.lanes.get n)) } }
      let acts (st : StationId) : Prop :=
        (s.lcu.active.stations.get st).kind ≠ .off ∧ (s.lcu.active.stations.get st).lane = n
      let skips (st : StationId) : Bool :=
        (s.lcu.active.stations.get st).kind == .capture
          && !(s.lcu.active.stations.get st).patternMask.getLsbD (s.trk.patterns.get st)
      (s.lcu.line ≠ .run →
        exec (.creationRequest n) s = .next (counted fun c => { c with ignored := c.ignored + 1 }))
      ∧ (s.lcu.line = .run → 128 ≤ s.trk.table.length → exec (.creationRequest n) s =
          .next (endEvent (passFault (.tableOverflow n r.reference) (counted fun c => { c with lost := c.lost + 1 }))))
      ∧ (s.lcu.line = .run → TableInv s → s.trk.table.length < 128 → (∃ st, acts st ∧ skips st = false) →
          (∀ st, acts st → s.mot.position < (s.lcu.active.stations.get st).commitPoint r.reference) →
          ∃ t, exec (.creationRequest n) s = .next t
            ∧ t.trk.table = s.trk.table ++ [⟨s.newTag, n, s.mot.position, r.reference, r.length, r.overlong, .none, false, none,
                (allEight.filter fun st => decide (acts st)).map fun st =>
                  ⟨st, if skips st then .skipped else .wait, false, false, false⟩⟩]
            ∧ t.trk.nextTag = tagAfter s.newTag
            ∧ t.trk.lanes = s.trk.lanes.set n { s.trk.lanes.get n with created := (s.trk.lanes.get n).created + 1 }
            ∧ (∀ st, t.trk.patterns.get st =
                if acts st ∧ (s.lcu.active.stations.get st).kind = .capture then
                  (s.trk.patterns.get st + 1) % (s.lcu.active.stations.get st).patternLength
                else s.trk.patterns.get st)
            ∧ (∀ st, t.trk.stations.get st =
                if acts st ∧ skips st = true then
                  { s.trk.stations.get st with skipped := (s.trk.stations.get st).skipped + 1 }
                else s.trk.stations.get st)
            ∧ t.lcu = s.lcu ∧ t.mot = s.mot ∧ t.det = s.det ∧ t.requests = before ++ after ∧ t.out = s.out ∧ t.cmd = s.cmd
            ∧ t.lnk = { s.lnk with sending := t.lnk.sending }
            ∧ t.pending = s.pending ∧ t.now = s.now ∧ t.pins = s.pins ∧ t.drawn = s.drawn)
      ∧ (s.lcu.line = .run → TableInv s → s.trk.table.length < 128 →
          let tag := s.newTag
          let placed : State := { s' with
            trk := { s.trk with
              table := s.trk.table ++ [⟨tag, n, s.mot.position, r.reference, r.length, r.overlong, .none, false, none,
                (allEight.filter fun st => decide (acts st)).map fun st =>
                  ⟨st, if skips st then .skipped else .wait, false, false, false⟩⟩]
              nextTag := tagAfter tag
              lanes := s.trk.lanes.set n { s.trk.lanes.get n with created := (s.trk.lanes.get n).created + 1 }
              patterns := Oct.ofFn fun st =>
                if acts st ∧ (s.lcu.active.stations.get st).kind = .capture then
                  (s.trk.patterns.get st + 1) % (s.lcu.active.stations.get st).patternLength
                else s.trk.patterns.get st
              stations := Oct.ofFn fun st =>
                if acts st ∧ skips st = true then
                  { s.trk.stations.get st with skipped := (s.trk.stations.get st).skipped + 1 }
                else s.trk.stations.get st }
            rpt := { s.rpt with latchDue := decide (s.trk.table.length = 127) } }
          let announced : State := if (s.lcu.active.lanes.get n).announce = true
            then passEvent (.itemNew tag n r.reference r.length r.overlong) placed else placed
          let immediate : List StationId := allEight.filter fun st =>
            decide (acts st ∧ skips st = false ∧ (s.lcu.active.stations.get st).commitPoint r.reference ≤ s.mot.position)
          exec (.creationRequest n) s =
            .next (endEvent (retireIfDone tag (immediate.foldl (fun u st => commitEntry tag st u) announced)))))
    ∧ (∀ t : Tag, tagAfter t = if t = 65535 then 1 else t + 1)
    ∧ ∀ s : State, s.trk.table.length ≤ 128 → s.trk.nextTag ≠ 0 →
      s.newTag ≠ 0 ∧ (∀ i ∈ s.trk.table, i.tag ≠ s.newTag)
      ∧ ∃ k, s.newTag = tagAfter^[k] s.trk.nextTag ∧ ∀ j < k, ∃ i ∈ s.trk.table, i.tag = tagAfter^[j] s.trk.nextTag

/-- The commit of a WAIT entry: a CAPTURE station requests its pulse. At an ACTUATE station the first decision is made, NONE
becoming DEFAULTED with the lane's default class and DEFAULTED counted, and OPEN becoming FIXED; then the action set's entry for
the class requests the pulse or makes the outcome PASSED, which the station counts. An entry not in WAIT is left (R17, R18, R44, R46,
R63, R72). -/
def Obligations.CommitsDecideAndRequest : Prop :=
  ∀ (s : State) (t : Tag) (i : Item), s.item? t = some i → ∀ st : StationId,
    let x := s.lcu.active.stations.get st
    let request : Request := ⟨t, st, i.reference + x.offset + x.fireDelay,
      match x.durationMode with
      | .ticks => .ticks (i.reference + x.offset + x.fireDelay + x.duration)
      | .time => .time x.duration⟩
    ((i.entry? st).map (·.outcome) ≠ some .wait → commitEntry t st s = s)
    ∧ ((i.entry? st).map (·.outcome) = some .wait →
      (x.kind = .capture → commitEntry t st s = handRequest x.output request s)
      ∧ (x.kind = .actuate →
          let default := (s.lcu.active.lanes.get i.lane).defaultClass
          let decided : VerdictClass × State := match i.verdict with
            | .none => (default, { s with trk := { s.trk.withItem t (fun j => { j with verdict := .defaulted default }) with
                lanes := s.trk.lanes.set i.lane
                  { s.trk.lanes.get i.lane with defaulted := (s.trk.lanes.get i.lane).defaulted + 1 } } })
            | .opened c => (c, { s with trk := s.trk.withItem t fun j => { j with verdict := .fixed c } })
            | .fixed c => (c, s)
            | .defaulted c => (c, s)
          (x.actionSet.getLsbD decided.1.val = true → commitEntry t st s = handRequest x.output request decided.2)
          ∧ (x.actionSet.getLsbD decided.1.val = false → commitEntry t st s = { decided.2 with
            trk := (decided.2.trk.withEntry t st fun e => { e with outcome := .passed }).counting st fun c =>
              { c with passed := c.passed + 1 } })))

/-! ### Outputs -/

/-- A pulse request at its output: with 8 entries pending the entry is MISSED:LIST_FULL, counted; otherwise the entry is ARMED and the request
takes its place in the pending list, after those that start no later; one whose start position is already reached is started at
once, and late, here where it is the only entry whose start position is reached (R19, R61, R77, R78). -/
def Obligations.RequestsAreFiledInStartOrder : Prop :=
  ∀ (s : State) (n : OutputId) (r : Request),
    let o := s.out.get n
    (8 ≤ o.waiting.length → handRequest n r s = { s with
      trk := (s.trk.withEntry r.tag r.station fun e => { e with outcome := .missed .listFull }).counting r.station fun c =>
        { c with missed := c.missed + 1 } })
    ∧ (∀ before after : List Request, o.waiting = before ++ after → o.waiting.length < 8 →
      (∀ x ∈ before, x.start ≤ r.start) → (∀ x ∈ after, r.start < x.start ∧ s.mot.position < x.start) →
      let u : State := { s with
        trk := s.trk.withEntry r.tag r.station fun e => { e with outcome := .armed }
        out := s.out.set n { o with waiting := before ++ r :: after } }
      (s.mot.position < r.start → handRequest n r s = u)
      ∧ (r.start ≤ s.mot.position → before = [] → handRequest n r s = takeStart n true r u))

/-- A start event: the entry leaves the list; a disabled output is missed DISABLED; an IDLE output begins the pulse, ACTIVE with
its line active, the max-on timer if the max-on time is not 0, and STARTED counted; one whose end condition is already met starts
and ends at once: STARTED counted, the line inactive again, RECOVERY, or IDLE when the recovery time is 0, and the end notice taken
after the start notice (R62, R81, R85); an ACTIVE one under MERGE takes the later of its end values and the request's and attaches
the item, and MERGED is counted; otherwise BUSY is counted and the start is missed (R80, R81, R82). -/
def Obligations.StartEventsAreArbitrated : Prop :=
  ∀ (s : State) (n : OutputId) (late : Bool) (r : Request),
    let x := s.lcu.active.outputs.get n
    let o : Output := { s.out.get n with waiting := (s.out.get n).waiting.erase r }
    let put (k : Output) : State := { s with out := s.out.set n k }
    (x.enabled = false → takeStart n late r s = missNotice r.tag r.station .disabled (put o))
    ∧ (x.enabled = true → o.state = .idle → 
        (match r.duration with
          | .ticks e => decide (s.mot.position < e)
          | .time d => decide (0 < d)) = true →
        takeStart n late r s = startNotice r.tag r.station false late (put { o with
          state := .active
          level := activeLevel x.polarity
          pulse := some (match r.duration with
            | .ticks e => ⟨some e, none, [(r.tag, r.station)]⟩
            | .time d => ⟨none, some (s.now + d), [(r.tag, r.station)]⟩)
          maxOn := if x.maxOn = 0 then none else some (s.now + 1000 * x.maxOn)
          recovery := none
          started := o.started + 1 }))
    ∧ (x.enabled = true → o.state = .idle →
        (match r.duration with
          | .ticks e => decide (s.mot.position < e)
          | .time d => decide (0 < d)) = false →
        takeStart n late r s = endNotice [(r.tag, r.station)] false (startNotice r.tag r.station false late
          (put { o.rested x s.now with started := o.started + 1 })))
    ∧ (∀ p : Pulse, o.pulse = some p → x.enabled = true → o.state = .active → x.overlap = .merge →
        takeStart n late r s = startNotice r.tag r.station true late (put { o with
          pulse := some (match r.duration with
            | .ticks e => { p with
                endPosition := some (max (p.endPosition.getD e) e), attached := p.attached ++ [(r.tag, r.station)] }
            | .time d => { p with
                endTime := some (max (p.endTime.getD (s.now + d)) (s.now + d)),
                attached := p.attached ++ [(r.tag, r.station)] })
          merged := o.merged + 1 }))
    ∧ (x.enabled = true → (o.state = .active ∧ x.overlap = .reject) ∨ o.state = .recovery ∨ o.state = .forced →
        takeStart n late r s = missNotice r.tag r.station .busy (put { o with busyMisses := o.busyMisses + 1 }))

/-- The ends of a pulse. END_TIME_EXPIRY ends the pulse when its end position, if there is one, is reached too; the forward tick that
reaches its end position ends it when its end time, if there is one, has passed; MAX_ON_EXPIRY ends it with truncation, counted;
each puts the line inactive and enters RECOVERY, or IDLE when the recovery time is 0, and the end notice names the attached entries.
RECOVERY_EXPIRY returns the output to IDLE. Without the timer, or the pulse, nothing changes (R84, R85, R86, R87). That an expiry row
carries the time base forward to the expiry is the model's choice (notes/assumptions/3.md). -/
def Obligations.OutputTimersEndPulses : Prop :=
  (∀ (s : State) (n : OutputId), Quiet s →
    let x := s.lcu.active.outputs.get n
    let o := s.out.get n
    (∀ p : Pulse, o.pulse = some p → ∀ e, p.endTime = some e →
      (p.endPosition.all (fun y => decide (y ≤ s.mot.position)) = false →
        exec (.endTimeExpiry n) s = .next { s with now := max s.now e })
      ∧ (p.endPosition.all (fun y => decide (y ≤ s.mot.position)) = true →
        exec (.endTimeExpiry n) s = .next (endEvent (endNotice p.attached false
          { s with now := max s.now e, out := s.out.set n (o.rested x (max s.now e)) }))))
    ∧ (∀ p : Pulse, o.pulse = some p → ∀ e, o.maxOn = some e →
      exec (.maxOnExpiry n) s = .next (endEvent (endNotice p.attached true
        { s with
          now := max s.now e
          out := s.out.set n { o.rested x (max s.now e) with truncated := o.truncated + 1 } })))
    ∧ (∀ e, o.recovery = some e → exec (.recoveryExpiry n) s = .next { s with
        now := max s.now e
        out := s.out.set n { o with state := .idle, level := !activeLevel x.polarity, recovery := none } })
    ∧ (o.pulse = none → exec (.endTimeExpiry n) s = .next s)
    ∧ (o.maxOn = none → exec (.maxOnExpiry n) s = .next s)
    ∧ (o.recovery = none → exec (.recoveryExpiry n) s = .next s))
    ∧ ∀ (s : State) (n : OutputId),
      (∀ p : Pulse, (s.out.get n).pulse = some p →
        (p.endPosition = some s.mot.position → p.endTime.all (fun e => decide (e ≤ s.now)) = true →
          tickEnd n s = endNotice p.attached false
            { s with out := s.out.set n ((s.out.get n).rested (s.lcu.active.outputs.get n) s.now) })
        ∧ (p.endPosition ≠ some s.mot.position ∨ p.endTime.all (fun e => decide (e ≤ s.now)) = false → tickEnd n s = s))
      ∧ ((s.out.get n).pulse = none → tickEnd n s = s)

/-- The notices of OUT at TRK. A start notice makes an ARMED entry ACTIVE with its flags, and a CAPTURE station's passes a
CAPTURE report. One pair of an end notice makes an ACTIVE entry FIRED, counted, TRUNCATED if the notice says so, and the
retirement check follows; the pairs of an end notice are taken in its order. A notice for an entry in another state, or for no
item, changes nothing (R20, R21, R22, R68, R72). The retirement check: an item every entry of whose outcome list is final leaves
the table, the others keeping their order, and ITEM_DONE, COMPLETED, is passed; a table that was full is full no more; a table
left empty in DRAINING ends the drain. Any other item stays (R3, R23, R27, R29, R134). -/
def Obligations.NoticesMoveOutcomesAndRetire : Prop :=
  ((∀ (s : State) (a b : Tag × StationId) (l : List (Tag × StationId)) (truncated : Bool),
      endNotice (a :: b :: l) truncated s = endNotice (b :: l) truncated (endNotice [a] truncated s)
      ∧ endNotice [] truncated s = s)
  ∧ (∀ (s : State) (t : Tag) (st : StationId) (a b : Bool) (cause : MissCause), (∀ i ∈ s.trk.table, i.tag ≠ t) →
      startNotice t st a b s = s ∧ missNotice t st cause s = s ∧ endNotice [(t, st)] a s = s)
  ∧ ∀ (s : State) (t : Tag) (i : Item), s.item? t = some i → ∀ st : StationId,
    let x := s.lcu.active.stations.get st
    (∀ merged late : Bool, (i.entry? st).map (·.outcome) = some .armed →
      let u := { s with trk := s.trk.withEntry t st fun e =>
        { e with outcome := .active, merged := e.merged || merged, lateStart := e.lateStart || late } }
      (x.kind = .capture → startNotice t st merged late s =
        passEvent (.capture t st x.output (i.reference + x.offset + x.fireDelay) merged late) u)
      ∧ (x.kind ≠ .capture → startNotice t st merged late s = u))
    ∧ (∀ cause : MissCause, (i.entry? st).map (·.outcome) = some .armed →
      missNotice t st cause s = retireIfDone t { s with
        trk := (s.trk.withEntry t st fun e => { e with outcome := .missed cause }).counting st fun c =>
          { c with missed := c.missed + 1 } })
    ∧ (∀ truncated : Bool, (i.entry? st).map (·.outcome) = some .active →
      endNotice [(t, st)] truncated s = retireIfDone t { s with
        trk := (s.trk.withEntry t st fun e => { e with outcome := .fired, truncated := e.truncated || truncated }).counting st
          fun c => { c with fired := c.fired + 1 } })
    ∧ (∀ (a b : Bool) (cause : MissCause), (i.entry? st).map (·.outcome) ≠ some .armed →
      startNotice t st a b s = s ∧ missNotice t st cause s = s)
    ∧ (∀ a : Bool, (i.entry? st).map (·.outcome) ≠ some .active → endNotice [(t, st)] a s = s))
    ∧ ∀ (s : State) (t : Tag) (i : Item), s.item? t = some i →
    ((∃ e ∈ i.entries, e.outcome.isFinal = false) → retireIfDone t s = s)
    ∧ ((∀ e ∈ i.entries, e.outcome.isFinal = true) →
      let left := s.trk.table.filter fun j => j.tag != t
      let drained := decide (s.lcu.line = .draining ∧ left = [])
      (retireIfDone t s).trk = { s.trk with table := left }
      ∧ (retireIfDone t s).lcu = { s.lcu with line := if drained then .setup else s.lcu.line }
      ∧ (retireIfDone t s).rpt = { (passEvent (.itemDone i .completed) s).rpt with
          latchDue := s.rpt.latchDue || decide (s.trk.table.length = 128) || drained }
      ∧ (retireIfDone t s).out = s.out ∧ KeepsBeyondTracking s (retireIfDone t s))

/-! ### Reports -/

/-- Admission to the report queue. An EVENT report enters below 56 entries, with the next number, the lost count and the
position, and otherwise is dropped, counted and lost. A FAULT coalesces into an unsent FAULT report of its kind, or enters below
64, or is suppressed and counted. The latch makes a STATUS report of the masked differences when there are some, no STATUS
report stands in the queue and it is not full, and only then takes the snapshot (R171, R173, R175, R182). The end of an event:
the latch compares, once, exactly where the event called for it, which the model's own mark latchDue remembers
(notes/assumptions/9.md); an idle transmitter begins the notice, the oldest reply, or the oldest pending report while the window
has room, in that order; and ATTN follows (R166, R176, R182, R185). -/
def Obligations.ReportsAreAdmitted : Prop :=
  ∀ s : State,
    let entry (b : ReportBody) : ReportEntry := ⟨s.rpt.nextNumber, s.rpt.lost, s.mot.position, b, false, false⟩
    (∀ b : ReportBody,
      (s.rpt.queue.length < 56 → passEvent b s = { s with rpt := { s.rpt with
        queue := s.rpt.queue ++ [entry b], nextNumber := s.rpt.nextNumber + 1, lost := 0 } })
      ∧ (56 ≤ s.rpt.queue.length → passEvent b s = { s with rpt := { s.rpt with
        lost := min 255 (s.rpt.lost + 1), lostEvents := s.rpt.lostEvents + 1 } }))
    ∧ (∀ v : FaultValues,
      (∀ (old rest : List ReportEntry) (e : ReportEntry), s.rpt.queue = old ++ e :: rest →
        ∀ (w : FaultValues) (occ supp : Nat), e.body = .fault w occ supp → w.isTrackLost = v.isTrackLost → e.onceSent = false →
        (∀ x ∈ old, x.body.isFaultLike v = true → x.onceSent = true) →
        passFault v s = { s with rpt := { s.rpt with
          queue := old ++ { e with body := .fault w (min 65535 (occ + 1)) supp } :: rest } })
      ∧ ((∀ x ∈ s.rpt.queue, x.body.isFaultLike v = true → x.onceSent = true) →
        (s.rpt.queue.length < 64 → passFault v s = { s with rpt := { s.rpt with
          queue := s.rpt.queue ++
            [entry (.fault v 1 (if v.isTrackLost then s.rpt.suppressedTrackLost else s.rpt.suppressedOverflow))]
          nextNumber := s.rpt.nextNumber + 1
          lost := 0
          suppressedTrackLost := if v.isTrackLost then 0 else s.rpt.suppressedTrackLost
          suppressedOverflow := if v.isTrackLost then s.rpt.suppressedOverflow else 0 } })
        ∧ (64 ≤ s.rpt.queue.length → passFault v s = { s with rpt := { s.rpt with
          suppressedTrackLost :=
            if v.isTrackLost then min 65535 (s.rpt.suppressedTrackLost + 1) else s.rpt.suppressedTrackLost
          suppressedOverflow :=
            if v.isTrackLost then s.rpt.suppressedOverflow else min 65535 (s.rpt.suppressedOverflow + 1)
          suppressedFaults := s.rpt.suppressedFaults + 1 } })))
    ∧ (let changed := s.liveStatus.differences s.rpt.snapshot &&& s.lcu.active.statusMask
      ((∃ e ∈ s.rpt.queue, e.body.isStatus = true) ∨ changed = 0 ∨ 64 ≤ s.rpt.queue.length → latchCompare s = s)
      ∧ ((∀ e ∈ s.rpt.queue, e.body.isStatus = false) → changed ≠ 0 → s.rpt.queue.length < 64 →
        latchCompare s = { s with rpt := { s.rpt with
          queue := s.rpt.queue ++ [entry (.status s.liveStatus changed)]
          nextNumber := s.rpt.nextNumber + 1
          lost := 0
          snapshot := s.liveStatus } }))
    ∧ (s.rpt.latchDue = true → latch s = latchCompare { s with rpt := { s.rpt with latchDue := false } })
    ∧ (s.rpt.latchDue = false → latch s = s)
    ∧ (let u := latch s
      let ends (t : State) : State := { t with rpt := { t.rpt with attention := t.attentionDue } }
      (concluded s = ends u)
      ∧ (s.lnk.sending.isSome = true → endEvent s = ends u)
      ∧ (s.lnk.sending = none →
        (∀ n : Notice, s.lnk.notice = some n → endEvent s =
          ends { u with lnk := { s.lnk with notice := none, sending := some ⟨0xE0, 0, n.payload, .none⟩ } })
        ∧ (∀ (r : Reply) (rs : List Reply), s.lnk.replies = r :: rs → s.lnk.notice = none → endEvent s =
          ends { u with lnk := { s.lnk with replies := rs, sending := some ⟨0x80, r.seq, r.payload, r.effect⟩ } })
        ∧ (∀ (old rest : List ReportEntry) (e : ReportEntry), u.rpt.queue = old ++ e :: rest →
          s.lnk.notice = none → s.lnk.replies = [] → (∀ x ∈ old, x.sent = true) → e.sent = false →
          (u.rpt.queue.filter fun x => x.sent).length < u.rpt.window → endEvent s =
            ends { u with
              lnk := { s.lnk with sending := some ⟨e.body.kindCode, 0, e.payload, .none⟩ }
              rpt := { u.rpt with queue := old ++ { e with sent := true, onceSent := true } :: rest } })
        ∧ (s.lnk.notice = none → s.lnk.replies = [] →
          u.rpt.window ≤ (u.rpt.queue.filter fun x => x.sent).length ∨ (∀ x ∈ u.rpt.queue, x.sent = true) →
          endEvent s = ends u)))

/-! ### Invariants -/

/-- After every command and event nothing of it is still to do: no comparison is due, the model's own field (notes/assumptions/9.md),
an idle transmitter has nothing available, and ATTN is active exactly while the link is in hold, the line is HALTED, or a report is
pending with at least W reports sent and unacknowledged (R166, R182, R185). That no command and no event
faults or is refused, and that none touches the commands that wait, is the model's choice (notes/assumptions/17.md). -/
def Obligations.EveryCommandSettles : Prop :=
  (∀ (c : Instr) (s t : State), exec c s = .next t → Settled t
      ∧ (t.rpt.attention = true ↔ t.lnk.hold = true ∨ t.lcu.line = .halted
        ∨ ((∃ e ∈ t.rpt.queue, e.sent = false) ∧ t.rpt.window ≤ (t.rpt.queue.filter fun e => e.sent).length)))
    ∧ ∀ (c : Instr) (s : State), ∃ t, exec c s = .next t ∧ t.pending = s.pending

/-- Every step keeps the tracking table within its bounds: at most 128 items, tags distinct and not 0, the next tag not 0 (R3,
R5). Every step keeps each outcome list in ascending station number (R8). Every step keeps the table empty in SETUP and HALTED
(R4). -/
def Obligations.TableFormIsKept : Prop :=
  (∀ s t : State, TableInv s → step s = .next t → TableInv t)
    ∧ (∀ s t : State, OutcomeListInv s → step s = .next t → OutcomeListInv t)
    ∧ ∀ s t : State, LineTableInv s → step s = .next t → LineTableInv t

/-- Every step leaves no item with every entry final in the table (R23). -/
def Obligations.FinishedItemsLeaveTheTable : Prop :=
  ∀ s t : State, TableInv s → OpenItemsInv s → step s = .next t → OpenItemsInv t

/-- Every step keeps the reverse debt within the limit plus one, and within the limit in RUN and DRAINING (R108). -/
def Obligations.DebtBoundIsKept : Prop :=
  ∀ s t : State, DebtInv s → step s = .next t → DebtInv t

/-- Every step keeps each output's line at the level its state calls for, its pulse and timers to their states, and its pending
list in order and within 8 (R75, R76, R77). -/
def Obligations.OutputFormIsKept : Prop :=
  ∀ s t : State, OutputsInv s → step s = .next t → OutputsInv t

/-- Every step keeps the report queue and the window within their bounds (R172, R173, R176, R182). Every step keeps the report
numbers consecutive after the last acknowledged, and the sent-unacknowledged entries the oldest (R172, R177, R178). -/
def Obligations.ReportQueueFormIsKept : Prop :=
  (∀ s t : State, ReportBoundsInv s → step s = .next t → ReportBoundsInv t)
    ∧ ∀ s t : State, ReportOrderInv s → step s = .next t → ReportOrderInv t

/-- Every step keeps the receive queue and the reply queue within 4 frames, with room for the reply of a command in execution
(R156, R157, R160). -/
def Obligations.LinkQueueBoundsAreKept : Prop :=
  ∀ s t : State, LinkQueuesInv s → step s = .next t → LinkQueuesInv t

/-- Every step keeps a leading position exactly in PRESENT, and a disabled lane IDLE without a candidate (R117, R120, R128). -/
def Obligations.LaneFormIsKept : Prop :=
  ∀ s t : State, LanesInv s → step s = .next t → LanesInv t

/-- The track position stands, but for the rows that make counts, under which it can advance by one, and the rows that can reset the
part, after which it can be 0 (R98, R149). Where it stands at the largest 48-bit value or beyond, a row that makes counts can leave any
value, since the data book gives none there: the model's free value (notes/assumptions/1.md). -/
def Obligations.PositionMovesByCountsAlone : Prop :=
  ∀ (c : Instr) (s t : State), exec c s = .next t →
    t.mot.position = s.mot.position
      ∨ (canMakeCount c = true ∧ (t.mot.position = s.mot.position + 1 ∨ 2 ^ 48 ≤ s.mot.position + 1))
      ∨ (canReset c = true ∧ t.mot.position = 0)
end

