-- ==== Sys2Proof/Laws/State.lean ====
section
/-! SUPPORT. Laws/State.lean: one lemma a field for each update of the state, and the tables of four and of eight. -/

namespace Sys2Proof

/-! ### The tables of four and of eight -/

variable {α : Type}

@[simp] theorem Quad.get_set_self (q : Quad α) (n : LaneId) (a : α) : (q.set n a).get n = a := by
  fin_cases n <;> rfl

theorem Quad.get_set_ne (q : Quad α) {n m : LaneId} (a : α) (h : m ≠ n) : (q.set n a).get m = q.get m := by
  fin_cases n <;> fin_cases m <;> first | rfl | exact absurd rfl h

theorem Quad.get_set (q : Quad α) (n m : LaneId) (a : α) : (q.set n a).get m = if m = n then a else q.get m := by
  by_cases h : m = n
  · subst h; simp
  · simp [Quad.get_set_ne q a h, h]

@[simp] theorem Quad.get_same (a : α) (n : LaneId) : (Quad.same a).get n = a := by
  fin_cases n <;> rfl

@[simp] theorem Quad.set_get_self (q : Quad α) (n : LaneId) : q.set n (q.get n) = q := by
  fin_cases n <;> rfl

@[simp] theorem Quad.set_set (q : Quad α) (n : LaneId) (a b : α) : (q.set n a).set n b = q.set n b := by
  fin_cases n <;> rfl

@[simp] theorem Oct.get_set_self (o : Oct α) (n : Fin 8) (a : α) : (o.set n a).get n = a := by
  fin_cases n <;> rfl

theorem Oct.get_set_ne (o : Oct α) {n m : Fin 8} (a : α) (h : m ≠ n) : (o.set n a).get m = o.get m := by
  fin_cases n <;> fin_cases m <;> first | rfl | exact absurd rfl h

theorem Oct.get_set (o : Oct α) (n m : Fin 8) (a : α) : (o.set n a).get m = if m = n then a else o.get m := by
  by_cases h : m = n
  · subst h; simp
  · simp [Oct.get_set_ne o a h, h]

@[simp] theorem Oct.get_same (a : α) (n : Fin 8) : (Oct.same a).get n = a := by
  fin_cases n <;> rfl

@[simp] theorem Oct.get_ofFn (f : Fin 8 → α) (n : Fin 8) : (Oct.ofFn f).get n = f n := by
  fin_cases n <;> rfl

@[simp] theorem Oct.set_get_self (o : Oct α) (n : Fin 8) : o.set n (o.get n) = o := by
  fin_cases n <;> rfl

@[simp] theorem Oct.set_set (o : Oct α) (n : Fin 8) (a b : α) : (o.set n a).set n b = o.set n b := by
  fin_cases n <;> rfl

theorem mem_allLanes (n : LaneId) : n ∈ allLanes := by fin_cases n <;> decide

theorem mem_allEight (n : Fin 8) : n ∈ allEight := by fin_cases n <;> decide

end Sys2Proof

namespace Sys2Proof.Machine

open Sys2Proof

variable (s : State)

/-! ### passStatus -/

@[simp] theorem passStatus_pending : (passStatus s).pending = s.pending := rfl
@[simp] theorem passStatus_now : (passStatus s).now = s.now := rfl
@[simp] theorem passStatus_pins : (passStatus s).pins = s.pins := rfl
@[simp] theorem passStatus_lcu : (passStatus s).lcu = s.lcu := rfl
@[simp] theorem passStatus_mot : (passStatus s).mot = s.mot := rfl
@[simp] theorem passStatus_det : (passStatus s).det = s.det := rfl
@[simp] theorem passStatus_requests : (passStatus s).requests = s.requests := rfl
@[simp] theorem passStatus_trk : (passStatus s).trk = s.trk := rfl
@[simp] theorem passStatus_out : (passStatus s).out = s.out := rfl
@[simp] theorem passStatus_lnk : (passStatus s).lnk = s.lnk := rfl
@[simp] theorem passStatus_cmd : (passStatus s).cmd = s.cmd := rfl
@[simp] theorem passStatus_rpt : (passStatus s).rpt = { s.rpt with latchDue := true } := rfl
@[simp] theorem passStatus_drawn : (passStatus s).drawn = s.drawn := rfl

/-! ### admitReport -/

@[simp] theorem admitReport_pending (b : ReportBody) : (admitReport b s).pending = s.pending := rfl
@[simp] theorem admitReport_now (b : ReportBody) : (admitReport b s).now = s.now := rfl
@[simp] theorem admitReport_pins (b : ReportBody) : (admitReport b s).pins = s.pins := rfl
@[simp] theorem admitReport_lcu (b : ReportBody) : (admitReport b s).lcu = s.lcu := rfl
@[simp] theorem admitReport_mot (b : ReportBody) : (admitReport b s).mot = s.mot := rfl
@[simp] theorem admitReport_det (b : ReportBody) : (admitReport b s).det = s.det := rfl
@[simp] theorem admitReport_requests (b : ReportBody) : (admitReport b s).requests = s.requests := rfl
@[simp] theorem admitReport_trk (b : ReportBody) : (admitReport b s).trk = s.trk := rfl
@[simp] theorem admitReport_out (b : ReportBody) : (admitReport b s).out = s.out := rfl
@[simp] theorem admitReport_lnk (b : ReportBody) : (admitReport b s).lnk = s.lnk := rfl
@[simp] theorem admitReport_cmd (b : ReportBody) : (admitReport b s).cmd = s.cmd := rfl
@[simp] theorem admitReport_rpt (b : ReportBody) : (admitReport b s).rpt = { s.rpt with
      queue := s.rpt.queue ++ [⟨s.rpt.nextNumber, s.rpt.lost, s.mot.position, b, false, false⟩]
      nextNumber := s.rpt.nextNumber + 1
      lost := 0 } := rfl
@[simp] theorem admitReport_drawn (b : ReportBody) : (admitReport b s).drawn = s.drawn := rfl

/-! ### countLane -/

@[simp] theorem countLane_pending (n : LaneId) (f : LaneCounters → LaneCounters) : (countLane n f s).pending = s.pending := rfl
@[simp] theorem countLane_now (n : LaneId) (f : LaneCounters → LaneCounters) : (countLane n f s).now = s.now := rfl
@[simp] theorem countLane_pins (n : LaneId) (f : LaneCounters → LaneCounters) : (countLane n f s).pins = s.pins := rfl
@[simp] theorem countLane_lcu (n : LaneId) (f : LaneCounters → LaneCounters) : (countLane n f s).lcu = s.lcu := rfl
@[simp] theorem countLane_mot (n : LaneId) (f : LaneCounters → LaneCounters) : (countLane n f s).mot = s.mot := rfl
@[simp] theorem countLane_det (n : LaneId) (f : LaneCounters → LaneCounters) : (countLane n f s).det = s.det := rfl
@[simp] theorem countLane_requests (n : LaneId) (f : LaneCounters → LaneCounters) : (countLane n f s).requests = s.requests := rfl
@[simp] theorem countLane_trk (n : LaneId) (f : LaneCounters → LaneCounters) : (countLane n f s).trk = { s.trk with lanes := s.trk.lanes.set n (f (s.trk.lanes.get n)) } := rfl
@[simp] theorem countLane_out (n : LaneId) (f : LaneCounters → LaneCounters) : (countLane n f s).out = s.out := rfl
@[simp] theorem countLane_lnk (n : LaneId) (f : LaneCounters → LaneCounters) : (countLane n f s).lnk = s.lnk := rfl
@[simp] theorem countLane_cmd (n : LaneId) (f : LaneCounters → LaneCounters) : (countLane n f s).cmd = s.cmd := rfl
@[simp] theorem countLane_rpt (n : LaneId) (f : LaneCounters → LaneCounters) : (countLane n f s).rpt = s.rpt := rfl
@[simp] theorem countLane_drawn (n : LaneId) (f : LaneCounters → LaneCounters) : (countLane n f s).drawn = s.drawn := rfl

/-! ### mapItem -/

@[simp] theorem mapItem_pending (t : Tag) (f : Item → Item) : (mapItem t f s).pending = s.pending := rfl
@[simp] theorem mapItem_now (t : Tag) (f : Item → Item) : (mapItem t f s).now = s.now := rfl
@[simp] theorem mapItem_pins (t : Tag) (f : Item → Item) : (mapItem t f s).pins = s.pins := rfl
@[simp] theorem mapItem_lcu (t : Tag) (f : Item → Item) : (mapItem t f s).lcu = s.lcu := rfl
@[simp] theorem mapItem_mot (t : Tag) (f : Item → Item) : (mapItem t f s).mot = s.mot := rfl
@[simp] theorem mapItem_det (t : Tag) (f : Item → Item) : (mapItem t f s).det = s.det := rfl
@[simp] theorem mapItem_requests (t : Tag) (f : Item → Item) : (mapItem t f s).requests = s.requests := rfl
@[simp] theorem mapItem_trk (t : Tag) (f : Item → Item) : (mapItem t f s).trk = { s.trk with table := s.trk.table.map fun i => if i.tag = t then f i else i } := rfl
@[simp] theorem mapItem_out (t : Tag) (f : Item → Item) : (mapItem t f s).out = s.out := rfl
@[simp] theorem mapItem_lnk (t : Tag) (f : Item → Item) : (mapItem t f s).lnk = s.lnk := rfl
@[simp] theorem mapItem_cmd (t : Tag) (f : Item → Item) : (mapItem t f s).cmd = s.cmd := rfl
@[simp] theorem mapItem_rpt (t : Tag) (f : Item → Item) : (mapItem t f s).rpt = s.rpt := rfl
@[simp] theorem mapItem_drawn (t : Tag) (f : Item → Item) : (mapItem t f s).drawn = s.drawn := rfl

/-! ### mapEntry -/

@[simp] theorem mapEntry_pending (t : Tag) (st : StationId) (f : Entry → Entry) : (mapEntry t st f s).pending = s.pending := rfl
@[simp] theorem mapEntry_now (t : Tag) (st : StationId) (f : Entry → Entry) : (mapEntry t st f s).now = s.now := rfl
@[simp] theorem mapEntry_pins (t : Tag) (st : StationId) (f : Entry → Entry) : (mapEntry t st f s).pins = s.pins := rfl
@[simp] theorem mapEntry_lcu (t : Tag) (st : StationId) (f : Entry → Entry) : (mapEntry t st f s).lcu = s.lcu := rfl
@[simp] theorem mapEntry_mot (t : Tag) (st : StationId) (f : Entry → Entry) : (mapEntry t st f s).mot = s.mot := rfl
@[simp] theorem mapEntry_det (t : Tag) (st : StationId) (f : Entry → Entry) : (mapEntry t st f s).det = s.det := rfl
@[simp] theorem mapEntry_requests (t : Tag) (st : StationId) (f : Entry → Entry) : (mapEntry t st f s).requests = s.requests := rfl
@[simp] theorem mapEntry_trk (t : Tag) (st : StationId) (f : Entry → Entry) : (mapEntry t st f s).trk = { s.trk with table := s.trk.table.map fun i => if i.tag = t then i.mapEntry st f else i } := rfl
@[simp] theorem mapEntry_out (t : Tag) (st : StationId) (f : Entry → Entry) : (mapEntry t st f s).out = s.out := rfl
@[simp] theorem mapEntry_lnk (t : Tag) (st : StationId) (f : Entry → Entry) : (mapEntry t st f s).lnk = s.lnk := rfl
@[simp] theorem mapEntry_cmd (t : Tag) (st : StationId) (f : Entry → Entry) : (mapEntry t st f s).cmd = s.cmd := rfl
@[simp] theorem mapEntry_rpt (t : Tag) (st : StationId) (f : Entry → Entry) : (mapEntry t st f s).rpt = s.rpt := rfl
@[simp] theorem mapEntry_drawn (t : Tag) (st : StationId) (f : Entry → Entry) : (mapEntry t st f s).drawn = s.drawn := rfl

/-! ### setOutcome -/

@[simp] theorem setOutcome_pending (t : Tag) (st : StationId) (o : StationOutcome) : (setOutcome t st o s).pending = s.pending := rfl
@[simp] theorem setOutcome_now (t : Tag) (st : StationId) (o : StationOutcome) : (setOutcome t st o s).now = s.now := rfl
@[simp] theorem setOutcome_pins (t : Tag) (st : StationId) (o : StationOutcome) : (setOutcome t st o s).pins = s.pins := rfl
@[simp] theorem setOutcome_lcu (t : Tag) (st : StationId) (o : StationOutcome) : (setOutcome t st o s).lcu = s.lcu := rfl
@[simp] theorem setOutcome_mot (t : Tag) (st : StationId) (o : StationOutcome) : (setOutcome t st o s).mot = s.mot := rfl
@[simp] theorem setOutcome_det (t : Tag) (st : StationId) (o : StationOutcome) : (setOutcome t st o s).det = s.det := rfl
@[simp] theorem setOutcome_requests (t : Tag) (st : StationId) (o : StationOutcome) : (setOutcome t st o s).requests = s.requests := rfl
@[simp] theorem setOutcome_trk (t : Tag) (st : StationId) (o : StationOutcome) : (setOutcome t st o s).trk = { s.trk with
      table := s.trk.table.map fun i => if i.tag = t then i.mapEntry st (fun e => { e with outcome := o }) else i
      stations := s.trk.stations.set st ((s.trk.stations.get st).count o) } := rfl
@[simp] theorem setOutcome_out (t : Tag) (st : StationId) (o : StationOutcome) : (setOutcome t st o s).out = s.out := rfl
@[simp] theorem setOutcome_lnk (t : Tag) (st : StationId) (o : StationOutcome) : (setOutcome t st o s).lnk = s.lnk := rfl
@[simp] theorem setOutcome_cmd (t : Tag) (st : StationId) (o : StationOutcome) : (setOutcome t st o s).cmd = s.cmd := rfl
@[simp] theorem setOutcome_rpt (t : Tag) (st : StationId) (o : StationOutcome) : (setOutcome t st o s).rpt = s.rpt := rfl
@[simp] theorem setOutcome_drawn (t : Tag) (st : StationId) (o : StationOutcome) : (setOutcome t st o s).drawn = s.drawn := rfl

/-! ### mapOutput -/

@[simp] theorem mapOutput_pending (n : OutputId) (f : Output → Output) : (mapOutput n f s).pending = s.pending := rfl
@[simp] theorem mapOutput_now (n : OutputId) (f : Output → Output) : (mapOutput n f s).now = s.now := rfl
@[simp] theorem mapOutput_pins (n : OutputId) (f : Output → Output) : (mapOutput n f s).pins = s.pins := rfl
@[simp] theorem mapOutput_lcu (n : OutputId) (f : Output → Output) : (mapOutput n f s).lcu = s.lcu := rfl
@[simp] theorem mapOutput_mot (n : OutputId) (f : Output → Output) : (mapOutput n f s).mot = s.mot := rfl
@[simp] theorem mapOutput_det (n : OutputId) (f : Output → Output) : (mapOutput n f s).det = s.det := rfl
@[simp] theorem mapOutput_requests (n : OutputId) (f : Output → Output) : (mapOutput n f s).requests = s.requests := rfl
@[simp] theorem mapOutput_trk (n : OutputId) (f : Output → Output) : (mapOutput n f s).trk = s.trk := rfl
@[simp] theorem mapOutput_out (n : OutputId) (f : Output → Output) : (mapOutput n f s).out = s.out.set n (f (s.out.get n)) := rfl
@[simp] theorem mapOutput_lnk (n : OutputId) (f : Output → Output) : (mapOutput n f s).lnk = s.lnk := rfl
@[simp] theorem mapOutput_cmd (n : OutputId) (f : Output → Output) : (mapOutput n f s).cmd = s.cmd := rfl
@[simp] theorem mapOutput_rpt (n : OutputId) (f : Output → Output) : (mapOutput n f s).rpt = s.rpt := rfl
@[simp] theorem mapOutput_drawn (n : OutputId) (f : Output → Output) : (mapOutput n f s).drawn = s.drawn := rfl

/-! ### reachTime -/

@[simp] theorem reachTime_pending (t : Nat) : (reachTime t s).pending = s.pending := rfl
@[simp] theorem reachTime_now (t : Nat) : (reachTime t s).now = max s.now t := rfl
@[simp] theorem reachTime_pins (t : Nat) : (reachTime t s).pins = s.pins := rfl
@[simp] theorem reachTime_lcu (t : Nat) : (reachTime t s).lcu = s.lcu := rfl
@[simp] theorem reachTime_mot (t : Nat) : (reachTime t s).mot = s.mot := rfl
@[simp] theorem reachTime_det (t : Nat) : (reachTime t s).det = s.det := rfl
@[simp] theorem reachTime_requests (t : Nat) : (reachTime t s).requests = s.requests := rfl
@[simp] theorem reachTime_trk (t : Nat) : (reachTime t s).trk = s.trk := rfl
@[simp] theorem reachTime_out (t : Nat) : (reachTime t s).out = s.out := rfl
@[simp] theorem reachTime_lnk (t : Nat) : (reachTime t s).lnk = s.lnk := rfl
@[simp] theorem reachTime_cmd (t : Nat) : (reachTime t s).cmd = s.cmd := rfl
@[simp] theorem reachTime_rpt (t : Nat) : (reachTime t s).rpt = s.rpt := rfl
@[simp] theorem reachTime_drawn (t : Nat) : (reachTime t s).drawn = s.drawn := rfl

/-! ### mapLane -/

@[simp] theorem mapLane_pending (n : LaneId) (f : Lane → Lane) : (mapLane n f s).pending = s.pending := rfl
@[simp] theorem mapLane_now (n : LaneId) (f : Lane → Lane) : (mapLane n f s).now = s.now := rfl
@[simp] theorem mapLane_pins (n : LaneId) (f : Lane → Lane) : (mapLane n f s).pins = s.pins := rfl
@[simp] theorem mapLane_lcu (n : LaneId) (f : Lane → Lane) : (mapLane n f s).lcu = s.lcu := rfl
@[simp] theorem mapLane_mot (n : LaneId) (f : Lane → Lane) : (mapLane n f s).mot = s.mot := rfl
@[simp] theorem mapLane_det (n : LaneId) (f : Lane → Lane) : (mapLane n f s).det = s.det.set n (f (s.det.get n)) := rfl
@[simp] theorem mapLane_requests (n : LaneId) (f : Lane → Lane) : (mapLane n f s).requests = s.requests := rfl
@[simp] theorem mapLane_trk (n : LaneId) (f : Lane → Lane) : (mapLane n f s).trk = s.trk := rfl
@[simp] theorem mapLane_out (n : LaneId) (f : Lane → Lane) : (mapLane n f s).out = s.out := rfl
@[simp] theorem mapLane_lnk (n : LaneId) (f : Lane → Lane) : (mapLane n f s).lnk = s.lnk := rfl
@[simp] theorem mapLane_cmd (n : LaneId) (f : Lane → Lane) : (mapLane n f s).cmd = s.cmd := rfl
@[simp] theorem mapLane_rpt (n : LaneId) (f : Lane → Lane) : (mapLane n f s).rpt = s.rpt := rfl
@[simp] theorem mapLane_drawn (n : LaneId) (f : Lane → Lane) : (mapLane n f s).drawn = s.drawn := rfl

/-! ### sendRequest -/

@[simp] theorem sendRequest_pending (r : CreationRequest) : (sendRequest r s).pending = s.pending := rfl
@[simp] theorem sendRequest_now (r : CreationRequest) : (sendRequest r s).now = s.now := rfl
@[simp] theorem sendRequest_pins (r : CreationRequest) : (sendRequest r s).pins = s.pins := rfl
@[simp] theorem sendRequest_lcu (r : CreationRequest) : (sendRequest r s).lcu = s.lcu := rfl
@[simp] theorem sendRequest_mot (r : CreationRequest) : (sendRequest r s).mot = s.mot := rfl
@[simp] theorem sendRequest_det (r : CreationRequest) : (sendRequest r s).det = s.det := rfl
@[simp] theorem sendRequest_requests (r : CreationRequest) : (sendRequest r s).requests = s.requests ++ [r] := rfl
@[simp] theorem sendRequest_trk (r : CreationRequest) : (sendRequest r s).trk = s.trk := rfl
@[simp] theorem sendRequest_out (r : CreationRequest) : (sendRequest r s).out = s.out := rfl
@[simp] theorem sendRequest_lnk (r : CreationRequest) : (sendRequest r s).lnk = s.lnk := rfl
@[simp] theorem sendRequest_cmd (r : CreationRequest) : (sendRequest r s).cmd = s.cmd := rfl
@[simp] theorem sendRequest_rpt (r : CreationRequest) : (sendRequest r s).rpt = s.rpt := rfl
@[simp] theorem sendRequest_drawn (r : CreationRequest) : (sendRequest r s).drawn = s.drawn := rfl

/-! ### mapMot -/

@[simp] theorem mapMot_pending (f : Mot → Mot) : (mapMot f s).pending = s.pending := rfl
@[simp] theorem mapMot_now (f : Mot → Mot) : (mapMot f s).now = s.now := rfl
@[simp] theorem mapMot_pins (f : Mot → Mot) : (mapMot f s).pins = s.pins := rfl
@[simp] theorem mapMot_lcu (f : Mot → Mot) : (mapMot f s).lcu = s.lcu := rfl
@[simp] theorem mapMot_mot (f : Mot → Mot) : (mapMot f s).mot = f s.mot := rfl
@[simp] theorem mapMot_det (f : Mot → Mot) : (mapMot f s).det = s.det := rfl
@[simp] theorem mapMot_requests (f : Mot → Mot) : (mapMot f s).requests = s.requests := rfl
@[simp] theorem mapMot_trk (f : Mot → Mot) : (mapMot f s).trk = s.trk := rfl
@[simp] theorem mapMot_out (f : Mot → Mot) : (mapMot f s).out = s.out := rfl
@[simp] theorem mapMot_lnk (f : Mot → Mot) : (mapMot f s).lnk = s.lnk := rfl
@[simp] theorem mapMot_cmd (f : Mot → Mot) : (mapMot f s).cmd = s.cmd := rfl
@[simp] theorem mapMot_rpt (f : Mot → Mot) : (mapMot f s).rpt = s.rpt := rfl
@[simp] theorem mapMot_drawn (f : Mot → Mot) : (mapMot f s).drawn = s.drawn := rfl

/-! ### mapLnk -/

@[simp] theorem mapLnk_pending (f : Lnk → Lnk) : (mapLnk f s).pending = s.pending := rfl
@[simp] theorem mapLnk_now (f : Lnk → Lnk) : (mapLnk f s).now = s.now := rfl
@[simp] theorem mapLnk_pins (f : Lnk → Lnk) : (mapLnk f s).pins = s.pins := rfl
@[simp] theorem mapLnk_lcu (f : Lnk → Lnk) : (mapLnk f s).lcu = s.lcu := rfl
@[simp] theorem mapLnk_mot (f : Lnk → Lnk) : (mapLnk f s).mot = s.mot := rfl
@[simp] theorem mapLnk_det (f : Lnk → Lnk) : (mapLnk f s).det = s.det := rfl
@[simp] theorem mapLnk_requests (f : Lnk → Lnk) : (mapLnk f s).requests = s.requests := rfl
@[simp] theorem mapLnk_trk (f : Lnk → Lnk) : (mapLnk f s).trk = s.trk := rfl
@[simp] theorem mapLnk_out (f : Lnk → Lnk) : (mapLnk f s).out = s.out := rfl
@[simp] theorem mapLnk_lnk (f : Lnk → Lnk) : (mapLnk f s).lnk = f s.lnk := rfl
@[simp] theorem mapLnk_cmd (f : Lnk → Lnk) : (mapLnk f s).cmd = s.cmd := rfl
@[simp] theorem mapLnk_rpt (f : Lnk → Lnk) : (mapLnk f s).rpt = s.rpt := rfl
@[simp] theorem mapLnk_drawn (f : Lnk → Lnk) : (mapLnk f s).drawn = s.drawn := rfl

/-! ### countLink -/

@[simp] theorem countLink_pending (f : LinkCounters → LinkCounters) : (countLink f s).pending = s.pending := rfl
@[simp] theorem countLink_now (f : LinkCounters → LinkCounters) : (countLink f s).now = s.now := rfl
@[simp] theorem countLink_pins (f : LinkCounters → LinkCounters) : (countLink f s).pins = s.pins := rfl
@[simp] theorem countLink_lcu (f : LinkCounters → LinkCounters) : (countLink f s).lcu = s.lcu := rfl
@[simp] theorem countLink_mot (f : LinkCounters → LinkCounters) : (countLink f s).mot = s.mot := rfl
@[simp] theorem countLink_det (f : LinkCounters → LinkCounters) : (countLink f s).det = s.det := rfl
@[simp] theorem countLink_requests (f : LinkCounters → LinkCounters) : (countLink f s).requests = s.requests := rfl
@[simp] theorem countLink_trk (f : LinkCounters → LinkCounters) : (countLink f s).trk = s.trk := rfl
@[simp] theorem countLink_out (f : LinkCounters → LinkCounters) : (countLink f s).out = s.out := rfl
@[simp] theorem countLink_lnk (f : LinkCounters → LinkCounters) : (countLink f s).lnk = { s.lnk with counters := f s.lnk.counters } := rfl
@[simp] theorem countLink_cmd (f : LinkCounters → LinkCounters) : (countLink f s).cmd = s.cmd := rfl
@[simp] theorem countLink_rpt (f : LinkCounters → LinkCounters) : (countLink f s).rpt = s.rpt := rfl
@[simp] theorem countLink_drawn (f : LinkCounters → LinkCounters) : (countLink f s).drawn = s.drawn := rfl

/-! ### queueReply -/

@[simp] theorem queueReply_pending (r : Reply) : (queueReply r s).pending = s.pending := rfl
@[simp] theorem queueReply_now (r : Reply) : (queueReply r s).now = s.now := rfl
@[simp] theorem queueReply_pins (r : Reply) : (queueReply r s).pins = s.pins := rfl
@[simp] theorem queueReply_lcu (r : Reply) : (queueReply r s).lcu = s.lcu := rfl
@[simp] theorem queueReply_mot (r : Reply) : (queueReply r s).mot = s.mot := rfl
@[simp] theorem queueReply_det (r : Reply) : (queueReply r s).det = s.det := rfl
@[simp] theorem queueReply_requests (r : Reply) : (queueReply r s).requests = s.requests := rfl
@[simp] theorem queueReply_trk (r : Reply) : (queueReply r s).trk = s.trk := rfl
@[simp] theorem queueReply_out (r : Reply) : (queueReply r s).out = s.out := rfl
@[simp] theorem queueReply_lnk (r : Reply) : (queueReply r s).lnk = { s.lnk with replies := s.lnk.replies ++ [r] } := rfl
@[simp] theorem queueReply_cmd (r : Reply) : (queueReply r s).cmd = s.cmd := rfl
@[simp] theorem queueReply_rpt (r : Reply) : (queueReply r s).rpt = s.rpt := rfl
@[simp] theorem queueReply_drawn (r : Reply) : (queueReply r s).drawn = s.drawn := rfl

/-! ### answerTaken -/

@[simp] theorem answerTaken_pending (kind seq : Byte) (crc : BitVec 16) (a : Answer) : (answerTaken kind seq crc a s).pending = s.pending := rfl
@[simp] theorem answerTaken_now (kind seq : Byte) (crc : BitVec 16) (a : Answer) : (answerTaken kind seq crc a s).now = s.now := rfl
@[simp] theorem answerTaken_pins (kind seq : Byte) (crc : BitVec 16) (a : Answer) : (answerTaken kind seq crc a s).pins = s.pins := rfl
@[simp] theorem answerTaken_lcu (kind seq : Byte) (crc : BitVec 16) (a : Answer) : (answerTaken kind seq crc a s).lcu = s.lcu := rfl
@[simp] theorem answerTaken_mot (kind seq : Byte) (crc : BitVec 16) (a : Answer) : (answerTaken kind seq crc a s).mot = s.mot := rfl
@[simp] theorem answerTaken_det (kind seq : Byte) (crc : BitVec 16) (a : Answer) : (answerTaken kind seq crc a s).det = s.det := rfl
@[simp] theorem answerTaken_requests (kind seq : Byte) (crc : BitVec 16) (a : Answer) : (answerTaken kind seq crc a s).requests = s.requests := rfl
@[simp] theorem answerTaken_trk (kind seq : Byte) (crc : BitVec 16) (a : Answer) : (answerTaken kind seq crc a s).trk = s.trk := rfl
@[simp] theorem answerTaken_out (kind seq : Byte) (crc : BitVec 16) (a : Answer) : (answerTaken kind seq crc a s).out = s.out := rfl
@[simp] theorem answerTaken_lnk (kind seq : Byte) (crc : BitVec 16) (a : Answer) : (answerTaken kind seq crc a s).lnk = { s.lnk with
      replies := s.lnk.replies ++ [⟨seq, replyPayload kind a, a.effect⟩]
      cache := some ⟨seq, crc, replyPayload kind a⟩ } := rfl
@[simp] theorem answerTaken_cmd (kind seq : Byte) (crc : BitVec 16) (a : Answer) : (answerTaken kind seq crc a s).cmd = s.cmd := rfl
@[simp] theorem answerTaken_rpt (kind seq : Byte) (crc : BitVec 16) (a : Answer) : (answerTaken kind seq crc a s).rpt = s.rpt := rfl
@[simp] theorem answerTaken_drawn (kind seq : Byte) (crc : BitVec 16) (a : Answer) : (answerTaken kind seq crc a s).drawn = s.drawn := rfl

/-! ### replayEntries -/

@[simp] theorem replayEntries_pending : (replayEntries s).pending = s.pending := rfl
@[simp] theorem replayEntries_now : (replayEntries s).now = s.now := rfl
@[simp] theorem replayEntries_pins : (replayEntries s).pins = s.pins := rfl
@[simp] theorem replayEntries_lcu : (replayEntries s).lcu = s.lcu := rfl
@[simp] theorem replayEntries_mot : (replayEntries s).mot = s.mot := rfl
@[simp] theorem replayEntries_det : (replayEntries s).det = s.det := rfl
@[simp] theorem replayEntries_requests : (replayEntries s).requests = s.requests := rfl
@[simp] theorem replayEntries_trk : (replayEntries s).trk = s.trk := rfl
@[simp] theorem replayEntries_out : (replayEntries s).out = s.out := rfl
@[simp] theorem replayEntries_lnk : (replayEntries s).lnk = s.lnk := rfl
@[simp] theorem replayEntries_cmd : (replayEntries s).cmd = s.cmd := rfl
@[simp] theorem replayEntries_rpt : (replayEntries s).rpt = { s.rpt with queue := s.rpt.queue.map fun e => { e with sent := false } } := rfl
@[simp] theorem replayEntries_drawn : (replayEntries s).drawn = s.drawn := rfl

/-! ### breakReports -/

@[simp] theorem breakReports_pending : (breakReports s).pending = s.pending := rfl
@[simp] theorem breakReports_now : (breakReports s).now = s.now := rfl
@[simp] theorem breakReports_pins : (breakReports s).pins = s.pins := rfl
@[simp] theorem breakReports_lcu : (breakReports s).lcu = s.lcu := rfl
@[simp] theorem breakReports_mot : (breakReports s).mot = s.mot := rfl
@[simp] theorem breakReports_det : (breakReports s).det = s.det := rfl
@[simp] theorem breakReports_requests : (breakReports s).requests = s.requests := rfl
@[simp] theorem breakReports_trk : (breakReports s).trk = s.trk := rfl
@[simp] theorem breakReports_out : (breakReports s).out = s.out := rfl
@[simp] theorem breakReports_lnk : (breakReports s).lnk = s.lnk := rfl
@[simp] theorem breakReports_cmd : (breakReports s).cmd = s.cmd := rfl
@[simp] theorem breakReports_rpt : (breakReports s).rpt = { s.rpt with queue := s.rpt.queue.map fun e => { e with sent := false }, window := 0 } := rfl
@[simp] theorem breakReports_drawn : (breakReports s).drawn = s.drawn := rfl

/-! ### mapStaged -/

@[simp] theorem mapStaged_pending (f : Configuration → Configuration) : (mapStaged f s).pending = s.pending := rfl
@[simp] theorem mapStaged_now (f : Configuration → Configuration) : (mapStaged f s).now = s.now := rfl
@[simp] theorem mapStaged_pins (f : Configuration → Configuration) : (mapStaged f s).pins = s.pins := rfl
@[simp] theorem mapStaged_lcu (f : Configuration → Configuration) : (mapStaged f s).lcu = { s.lcu with staged := f s.lcu.staged } := rfl
@[simp] theorem mapStaged_mot (f : Configuration → Configuration) : (mapStaged f s).mot = s.mot := rfl
@[simp] theorem mapStaged_det (f : Configuration → Configuration) : (mapStaged f s).det = s.det := rfl
@[simp] theorem mapStaged_requests (f : Configuration → Configuration) : (mapStaged f s).requests = s.requests := rfl
@[simp] theorem mapStaged_trk (f : Configuration → Configuration) : (mapStaged f s).trk = s.trk := rfl
@[simp] theorem mapStaged_out (f : Configuration → Configuration) : (mapStaged f s).out = s.out := rfl
@[simp] theorem mapStaged_lnk (f : Configuration → Configuration) : (mapStaged f s).lnk = s.lnk := rfl
@[simp] theorem mapStaged_cmd (f : Configuration → Configuration) : (mapStaged f s).cmd = s.cmd := rfl
@[simp] theorem mapStaged_rpt (f : Configuration → Configuration) : (mapStaged f s).rpt = s.rpt := rfl
@[simp] theorem mapStaged_drawn (f : Configuration → Configuration) : (mapStaged f s).drawn = s.drawn := rfl

/-! ### idleMicrosecond -/

@[simp] theorem idleMicrosecond_pending : (idleMicrosecond s).pending = s.pending := rfl
@[simp] theorem idleMicrosecond_now : (idleMicrosecond s).now = s.now + 1 := rfl
@[simp] theorem idleMicrosecond_pins : (idleMicrosecond s).pins = s.pins := rfl
@[simp] theorem idleMicrosecond_lcu : (idleMicrosecond s).lcu = s.lcu := rfl
@[simp] theorem idleMicrosecond_mot : (idleMicrosecond s).mot = s.mot := rfl
@[simp] theorem idleMicrosecond_det : (idleMicrosecond s).det = s.det := rfl
@[simp] theorem idleMicrosecond_requests : (idleMicrosecond s).requests = s.requests := rfl
@[simp] theorem idleMicrosecond_trk : (idleMicrosecond s).trk = s.trk := rfl
@[simp] theorem idleMicrosecond_out : (idleMicrosecond s).out = s.out := rfl
@[simp] theorem idleMicrosecond_lnk : (idleMicrosecond s).lnk = s.lnk := rfl
@[simp] theorem idleMicrosecond_cmd : (idleMicrosecond s).cmd = s.cmd := rfl
@[simp] theorem idleMicrosecond_rpt : (idleMicrosecond s).rpt = s.rpt := rfl
@[simp] theorem idleMicrosecond_drawn : (idleMicrosecond s).drawn = s.drawn := rfl

/-! ### State.afterPurge -/

@[simp] theorem afterPurge_pending (c : PurgeCause) (k : Option LaneId) : (s.afterPurge c k).pending = s.pending := rfl
@[simp] theorem afterPurge_now (c : PurgeCause) (k : Option LaneId) : (s.afterPurge c k).now = s.now := rfl
@[simp] theorem afterPurge_pins (c : PurgeCause) (k : Option LaneId) : (s.afterPurge c k).pins = s.pins := rfl
@[simp] theorem afterPurge_mot (c : PurgeCause) (k : Option LaneId) : (s.afterPurge c k).mot = s.mot := rfl
@[simp] theorem afterPurge_det (c : PurgeCause) (k : Option LaneId) : (s.afterPurge c k).det = s.det := rfl
@[simp] theorem afterPurge_requests (c : PurgeCause) (k : Option LaneId) : (s.afterPurge c k).requests = s.requests := rfl
@[simp] theorem afterPurge_lnk (c : PurgeCause) (k : Option LaneId) : (s.afterPurge c k).lnk = s.lnk := rfl
@[simp] theorem afterPurge_cmd (c : PurgeCause) (k : Option LaneId) : (s.afterPurge c k).cmd = s.cmd := rfl
@[simp] theorem afterPurge_drawn (c : PurgeCause) (k : Option LaneId) : (s.afterPurge c k).drawn = s.drawn := rfl
@[simp] theorem afterPurge_staged (c : PurgeCause) (k : Option LaneId) : (s.afterPurge c k).lcu.staged = s.lcu.staged := rfl
@[simp] theorem afterPurge_active (c : PurgeCause) (k : Option LaneId) : (s.afterPurge c k).lcu.active = s.lcu.active := rfl
@[simp] theorem afterPurge_table (c : PurgeCause) (k : Option LaneId) :
    (s.afterPurge c k).trk.table = s.trk.table.filter fun i => k.any fun n => i.lane != n := rfl
@[simp] theorem afterPurge_nextTag (c : PurgeCause) (k : Option LaneId) : (s.afterPurge c k).trk.nextTag = s.trk.nextTag := rfl
@[simp] theorem afterPurge_patterns (c : PurgeCause) (k : Option LaneId) : (s.afterPurge c k).trk.patterns = s.trk.patterns := rfl
@[simp] theorem afterPurge_lanes (c : PurgeCause) (k : Option LaneId) : (s.afterPurge c k).trk.lanes = s.trk.lanes := rfl

/-- A purge closes every entry. -/
theorem StationOutcome.isFinal_purged (o : StationOutcome) : o.purged.isFinal = true := by cases o <;> rfl

/-- An item reported by a purge has every entry final (R27). -/
theorem Item.isDone_purged (i : Item) : i.purged.isDone = true := by
  simp [Item.isDone, Item.purged, StationOutcome.isFinal_purged]

@[simp] theorem Item.purged_tag (i : Item) : i.purged.tag = i.tag := rfl
@[simp] theorem Item.purged_lane (i : Item) : i.purged.lane = i.lane := rfl

/-- An output at rest has its line at the level its state calls for (R75). -/
theorem Output.rested_level (o : Output) (x : OutputConfig) (now : Nat) :
    (o.rested x now).level = levelFor x.polarity (o.rested x now).state := by
  unfold Output.rested; dsimp only; split <;> rfl

@[simp] theorem Output.rested_pulse (o : Output) (x : OutputConfig) (now : Nat) : (o.rested x now).pulse = none := rfl
@[simp] theorem Output.rested_maxOn (o : Output) (x : OutputConfig) (now : Nat) : (o.rested x now).maxOn = none := rfl
@[simp] theorem Output.rested_waiting (o : Output) (x : OutputConfig) (now : Nat) : (o.rested x now).waiting = o.waiting := rfl

end Sys2Proof.Machine
end

