-- ==== Sys2Proof/Laws/Frames.lean ====
section
/-! SUPPORT. Laws/Frames.lean: what each operation of TRK, OUT and RPT leaves alone, one lemma an operation. -/

namespace Sys2Proof.Machine

open Sys2Proof

/-! ### The two relations are transitive, and pass through folds -/

theorem KeepsBeyondTracking.refl (s : State) : KeepsBeyondTracking s s :=
  ⟨rfl, rfl, rfl, rfl, rfl, rfl, rfl, rfl, rfl, rfl, rfl⟩

theorem KeepsBeyondTracking.trans {a b c : State} (h : KeepsBeyondTracking a b) (k : KeepsBeyondTracking b c) :
    KeepsBeyondTracking a c :=
  ⟨k.pending.trans h.pending, k.now.trans h.now, k.pins.trans h.pins, k.staged.trans h.staged, k.active.trans h.active,
    k.mot.trans h.mot, k.det.trans h.det, k.requests.trans h.requests, k.lnk.trans h.lnk, k.cmd.trans h.cmd,
    k.drawn.trans h.drawn⟩

theorem KeepsBeyondTracking.foldl {α : Type} (f : State → α → State) (h : ∀ s a, KeepsBeyondTracking s (f s a)) (l : List α) :
    ∀ s, KeepsBeyondTracking s (l.foldl f s) := by
  induction l with
  | nil => exact fun s => .refl s
  | cons a l ih => exact fun s => (h s a).trans (ih (f s a))

theorem KeepsBeyondReports.refl (s : State) : KeepsBeyondReports s s := ⟨.refl s, rfl, rfl, rfl⟩

theorem KeepsBeyondReports.trans {a b c : State} (h : KeepsBeyondReports a b) (k : KeepsBeyondReports b c) :
    KeepsBeyondReports a c :=
  ⟨h.toKeepsBeyondTracking.trans k.toKeepsBeyondTracking, k.line.trans h.line, k.trk.trans h.trk, k.out.trans h.out⟩

theorem KeepsCounts.refl (s : State) : KeepsCounts s s := ⟨rfl, rfl, rfl⟩

theorem KeepsCounts.trans {a b c : State} (h : KeepsCounts a b) (k : KeepsCounts b c) : KeepsCounts a c :=
  ⟨k.nextTag.trans h.nextTag, k.patterns.trans h.patterns, k.lanes.trans h.lanes⟩

theorem KeepsCounts.foldl {α : Type} (f : State → α → State) (h : ∀ s a, KeepsCounts s (f s a)) (l : List α) :
    ∀ s, KeepsCounts s (l.foldl f s) := by
  induction l with
  | nil => exact fun s => .refl s
  | cons a l ih => exact fun s => (h s a).trans (ih (f s a))

theorem KeepsBeyondReports.counts {s t : State} (h : KeepsBeyondReports s t) : KeepsCounts s t := by
  refine ⟨?_, ?_, ?_⟩ <;> rw [h.trk]

/-- A fold keeps what each of its steps keeps. -/
theorem foldl_keeps {α β : Type} (g : State → β) (f : State → α → State) (h : ∀ s a, g (f s a) = g s) (l : List α) :
    ∀ s, g (l.foldl f s) = g s := by
  induction l with
  | nil => exact fun s => rfl
  | cons a l ih => exact fun s => (ih (f s a)).trans (h s a)

/-! ### RPT -/

theorem passStatus_keeps (s : State) : KeepsBeyondReports s (passStatus s) :=
  ⟨⟨rfl, rfl, rfl, rfl, rfl, rfl, rfl, rfl, rfl, rfl, rfl⟩, rfl, rfl, rfl⟩

theorem admitReport_keeps (b : ReportBody) (s : State) : KeepsBeyondReports s (admitReport b s) :=
  ⟨⟨rfl, rfl, rfl, rfl, rfl, rfl, rfl, rfl, rfl, rfl, rfl⟩, rfl, rfl, rfl⟩

/-- A state that differs in RPT alone. -/
theorem keeps_rpt (s : State) (r : Rpt) : KeepsBeyondReports s { s with rpt := r } :=
  ⟨⟨rfl, rfl, rfl, rfl, rfl, rfl, rfl, rfl, rfl, rfl, rfl⟩, rfl, rfl, rfl⟩

theorem passEvent_keeps (b : ReportBody) (s : State) : KeepsBeyondReports s (passEvent b s) := by
  unfold passEvent
  split
  · exact admitReport_keeps b s
  · exact keeps_rpt s _

theorem passFault_keeps (v : FaultValues) (s : State) : KeepsBeyondReports s (passFault v s) := by
  unfold passFault
  split
  · exact keeps_rpt s _
  · split
    · exact (admitReport_keeps _ s).trans (keeps_rpt _ _)
    · exact keeps_rpt s _

theorem latchCompare_keeps (s : State) : KeepsBeyondReports s (latchCompare s) := by
  unfold latchCompare
  split
  · exact .refl s
  · exact (admitReport_keeps _ s).trans (keeps_rpt _ _)

theorem latch_keeps (s : State) : KeepsBeyondReports s (latch s) := by
  unfold latch
  split
  · exact (keeps_rpt s _).trans (latchCompare_keeps _)
  · exact .refl s

/-! ### The line state -/

theorem setLine_keeps (l : LineState) (s : State) : KeepsBeyondTracking s (setLine l s) := by
  unfold setLine
  split
  · exact .refl s
  · exact ⟨rfl, rfl, rfl, rfl, rfl, rfl, rfl, rfl, rfl, rfl, rfl⟩

@[simp] theorem setLine_line (l : LineState) (s : State) : (setLine l s).lcu.line = l := by
  unfold setLine
  split
  · assumption
  · rfl

@[simp] theorem setLine_trk (l : LineState) (s : State) : (setLine l s).trk = s.trk := by
  unfold setLine; split <;> rfl

@[simp] theorem setLine_out (l : LineState) (s : State) : (setLine l s).out = s.out := by
  unfold setLine; split <;> rfl

theorem tableEmptyNotice_keeps (s : State) : KeepsBeyondTracking s (tableEmptyNotice s) := by
  unfold tableEmptyNotice
  split
  · exact setLine_keeps _ s
  · exact .refl s

@[simp] theorem tableEmptyNotice_trk (s : State) : (tableEmptyNotice s).trk = s.trk := by
  unfold tableEmptyNotice; split <;> simp

@[simp] theorem tableEmptyNotice_out (s : State) : (tableEmptyNotice s).out = s.out := by
  unfold tableEmptyNotice; split <;> simp

/-- What the table-empty notice does to the line state: the end of a drain (R134). -/
theorem tableEmptyNotice_line (s : State) :
    (tableEmptyNotice s).lcu.line =
      if s.trk.table = [] ∧ s.lcu.line = .draining then .setup else s.lcu.line := by
  unfold tableEmptyNotice
  by_cases h : s.trk.table = [] <;> by_cases k : s.lcu.line = .draining <;> simp [h, k]

/-! ### Items -/

theorem countLane_keeps (n : LaneId) (f : LaneCounters → LaneCounters) (s : State) :
    KeepsBeyondTracking s (countLane n f s) :=
  ⟨rfl, rfl, rfl, rfl, rfl, rfl, rfl, rfl, rfl, rfl, rfl⟩

theorem mapItem_keeps (t : Tag) (f : Item → Item) (s : State) : KeepsBeyondTracking s (mapItem t f s) :=
  ⟨rfl, rfl, rfl, rfl, rfl, rfl, rfl, rfl, rfl, rfl, rfl⟩

theorem mapEntry_keeps (t : Tag) (st : StationId) (f : Entry → Entry) (s : State) :
    KeepsBeyondTracking s (mapEntry t st f s) :=
  ⟨rfl, rfl, rfl, rfl, rfl, rfl, rfl, rfl, rfl, rfl, rfl⟩

theorem mapEntry_counts (t : Tag) (st : StationId) (f : Entry → Entry) (s : State) : KeepsCounts s (mapEntry t st f s) :=
  ⟨rfl, rfl, rfl⟩

/-- The entry and the station's counter that setOutcome changes, as the statements write them. -/
theorem setOutcome_eq (t : Tag) (st : StationId) (o : StationOutcome) (s : State) :
    setOutcome t st o s =
      { s with trk := (s.trk.withEntry t st fun e => { e with outcome := o }).counting st fun c => c.count o } := rfl

theorem setOutcome_keeps (t : Tag) (st : StationId) (o : StationOutcome) (s : State) :
    KeepsBeyondTracking s (setOutcome t st o s) :=
  ⟨rfl, rfl, rfl, rfl, rfl, rfl, rfl, rfl, rfl, rfl, rfl⟩

theorem setOutcome_counts (t : Tag) (st : StationId) (o : StationOutcome) (s : State) : KeepsCounts s (setOutcome t st o s) :=
  ⟨rfl, rfl, rfl⟩

/-- What the removal of an item leaves: the items of other tags, and every counter of TRK (R3, R23, R24). -/
theorem removeItem_trk (i : Item) (d : Disposition) (s : State) :
    (removeItem i d s).trk = { s.trk with table := s.trk.table.filter fun j => j.tag != i.tag } := by
  unfold removeItem
  simp only [tableEmptyNotice_trk]
  split <;> simp [(passEvent_keeps _ _).trk]

theorem removeItem_keeps (i : Item) (d : Disposition) (s : State) : KeepsBeyondTracking s (removeItem i d s) := by
  unfold removeItem
  refine KeepsBeyondTracking.trans ?_ (tableEmptyNotice_keeps _)
  have h : KeepsBeyondTracking s (passEvent (.itemDone i d)
      { s with trk := { s.trk with table := s.trk.table.filter fun j => j.tag != i.tag } }) :=
    let k := (passEvent_keeps (.itemDone i d)
      { s with trk := { s.trk with table := s.trk.table.filter fun j => j.tag != i.tag } }).toKeepsBeyondTracking
    ⟨k.pending, k.now, k.pins, k.staged, k.active, k.mot, k.det, k.requests, k.lnk, k.cmd, k.drawn⟩
  split
  · exact h.trans (passStatus_keeps _).toKeepsBeyondTracking
  · exact h

@[simp] theorem removeItem_out (i : Item) (d : Disposition) (s : State) : (removeItem i d s).out = s.out := by
  unfold removeItem
  simp only [tableEmptyNotice_out]
  split <;> simp [(passEvent_keeps _ _).out]

/-- What the removal of an item does to the line state: it ends a drain it leaves without items (R23, R134). -/
theorem removeItem_line (i : Item) (d : Disposition) (s : State) :
    (removeItem i d s).lcu.line =
      if (s.trk.table.filter fun j => j.tag != i.tag) = [] ∧ s.lcu.line = .draining then .setup else s.lcu.line := by
  unfold removeItem
  rw [tableEmptyNotice_line]
  split <;> simp [(passEvent_keeps _ _).trk, (passEvent_keeps _ _).line]

theorem removeItem_counts (i : Item) (d : Disposition) (s : State) : KeepsCounts s (removeItem i d s) := by
  refine ⟨?_, ?_, ?_⟩ <;> rw [removeItem_trk]

theorem retireIfDone_keeps (t : Tag) (s : State) : KeepsBeyondTracking s (retireIfDone t s) := by
  unfold retireIfDone
  split
  · exact .refl s
  · split
    · exact removeItem_keeps _ _ s
    · exact .refl s

theorem retireIfDone_counts (t : Tag) (s : State) : KeepsCounts s (retireIfDone t s) := by
  unfold retireIfDone
  split
  · exact .refl s
  · split
    · exact removeItem_counts _ _ s
    · exact .refl s

@[simp] theorem retireIfDone_out (t : Tag) (s : State) : (retireIfDone t s).out = s.out := by
  unfold retireIfDone
  split
  · rfl
  · split <;> simp

/-! ### Notices -/

theorem startNotice_keeps (t : Tag) (st : StationId) (m l : Bool) (s : State) :
    KeepsBeyondTracking s (startNotice t st m l s) := by
  unfold startNotice
  split
  · exact .refl s
  · split
    · dsimp only
      split
      · exact (mapEntry_keeps _ _ _ s).trans (passEvent_keeps _ _).toKeepsBeyondTracking
      · exact mapEntry_keeps _ _ _ s
    · exact .refl s

theorem startNotice_counts (t : Tag) (st : StationId) (m l : Bool) (s : State) : KeepsCounts s (startNotice t st m l s) := by
  unfold startNotice
  split
  · exact .refl s
  · split
    · dsimp only
      split
      · exact (mapEntry_counts _ _ _ s).trans (passEvent_keeps _ _).counts
      · exact mapEntry_counts _ _ _ s
    · exact .refl s

@[simp] theorem startNotice_out (t : Tag) (st : StationId) (m l : Bool) (s : State) : (startNotice t st m l s).out = s.out := by
  unfold startNotice
  split
  · rfl
  · split
    · dsimp only
      split <;> simp [(passEvent_keeps _ _).out]
    · rfl

@[simp] theorem startNotice_line (t : Tag) (st : StationId) (m l : Bool) (s : State) :
    (startNotice t st m l s).lcu.line = s.lcu.line := by
  unfold startNotice
  split
  · rfl
  · split
    · dsimp only
      split <;> simp [(passEvent_keeps _ _).line]
    · rfl

theorem missNotice_keeps (t : Tag) (st : StationId) (c : MissCause) (s : State) :
    KeepsBeyondTracking s (missNotice t st c s) := by
  unfold missNotice
  split
  · exact (setOutcome_keeps _ _ _ s).trans (retireIfDone_keeps _ _)
  · exact .refl s

theorem missNotice_counts (t : Tag) (st : StationId) (c : MissCause) (s : State) : KeepsCounts s (missNotice t st c s) := by
  unfold missNotice
  split
  · exact (setOutcome_counts _ _ _ s).trans (retireIfDone_counts _ _)
  · exact .refl s

@[simp] theorem missNotice_out (t : Tag) (st : StationId) (c : MissCause) (s : State) : (missNotice t st c s).out = s.out := by
  unfold missNotice
  split <;> simp

theorem endNoticeFor_keeps (b : Bool) (s : State) (p : Tag × StationId) : KeepsBeyondTracking s (endNoticeFor b s p) := by
  unfold endNoticeFor
  split
  · exact ((mapEntry_keeps _ _ _ s).trans (setOutcome_keeps _ _ _ _)).trans (retireIfDone_keeps _ _)
  · exact .refl s

theorem endNoticeFor_counts (b : Bool) (s : State) (p : Tag × StationId) : KeepsCounts s (endNoticeFor b s p) := by
  unfold endNoticeFor
  split
  · exact ((mapEntry_counts _ _ _ s).trans (setOutcome_counts _ _ _ _)).trans (retireIfDone_counts _ _)
  · exact .refl s

@[simp] theorem endNoticeFor_out (b : Bool) (s : State) (p : Tag × StationId) : (endNoticeFor b s p).out = s.out := by
  unfold endNoticeFor
  split <;> simp

theorem endNotice_keeps (ps : List (Tag × StationId)) (b : Bool) (s : State) : KeepsBeyondTracking s (endNotice ps b s) :=
  KeepsBeyondTracking.foldl _ (endNoticeFor_keeps b) ps s

theorem endNotice_counts (ps : List (Tag × StationId)) (b : Bool) (s : State) : KeepsCounts s (endNotice ps b s) :=
  KeepsCounts.foldl _ (endNoticeFor_counts b) ps s

@[simp] theorem endNotice_out (ps : List (Tag × StationId)) (b : Bool) (s : State) : (endNotice ps b s).out = s.out :=
  foldl_keeps State.out _ (endNoticeFor_out b) ps s

/-! ### Outputs -/

theorem mapOutput_keeps (n : OutputId) (f : Output → Output) (s : State) : KeepsBeyondTracking s (mapOutput n f s) :=
  ⟨rfl, rfl, rfl, rfl, rfl, rfl, rfl, rfl, rfl, rfl, rfl⟩

theorem mapOutput_counts (n : OutputId) (f : Output → Output) (s : State) : KeepsCounts s (mapOutput n f s) := ⟨rfl, rfl, rfl⟩

theorem mapOutput_get (n m : OutputId) (f : Output → Output) (s : State) :
    (mapOutput n f s).out.get m = if m = n then f (s.out.get n) else s.out.get m := by
  simp [Oct.get_set]

/-- The output that restOutput leaves, as the statements write it. -/
theorem restOutput_eq (n : OutputId) (s : State) :
    restOutput n s = { s with out := s.out.set n ((s.out.get n).rested (s.lcu.active.outputs.get n) s.now) } := by
  unfold restOutput mapOutput Output.rested State.outputConfig
  dsimp only
  split <;> rfl

theorem restOutput_keeps (n : OutputId) (s : State) : KeepsBeyondTracking s (restOutput n s) :=
  ⟨rfl, rfl, rfl, rfl, rfl, rfl, rfl, rfl, rfl, rfl, rfl⟩

theorem restOutput_counts (n : OutputId) (s : State) : KeepsCounts s (restOutput n s) := ⟨rfl, rfl, rfl⟩

theorem beginPulse_keeps (n : OutputId) (p : Pulse) (s : State) : KeepsBeyondTracking s (beginPulse n p s) :=
  ⟨rfl, rfl, rfl, rfl, rfl, rfl, rfl, rfl, rfl, rfl, rfl⟩

theorem beginPulse_counts (n : OutputId) (p : Pulse) (s : State) : KeepsCounts s (beginPulse n p s) := ⟨rfl, rfl, rfl⟩

theorem endPulse_keeps (n : OutputId) (b : Bool) (s : State) : KeepsBeyondTracking s (endPulse n b s) := by
  unfold endPulse
  split
  · exact .refl s
  · dsimp only
    refine KeepsBeyondTracking.trans ?_ (endNotice_keeps _ _ _)
    split
    · exact (restOutput_keeps n s).trans (mapOutput_keeps n _ _)
    · exact restOutput_keeps n s

theorem endPulse_counts (n : OutputId) (b : Bool) (s : State) : KeepsCounts s (endPulse n b s) := by
  unfold endPulse
  split
  · exact .refl s
  · dsimp only
    refine KeepsCounts.trans ?_ (endNotice_counts _ _ _)
    split <;> exact ⟨rfl, rfl, rfl⟩

/-- The end of a pulse at its output and at the others: the output rests, with the truncation counted if it was one (R85, R87,
R90). -/
theorem endPulse_get (n m : OutputId) (b : Bool) (s : State) :
    (endPulse n b s).out.get m =
      if m = n ∧ (s.out.get n).pulse.isSome = true then
        { (restOutput n s).out.get n with
          truncated := (s.out.get n).truncated + (if b then 1 else 0) }
      else s.out.get m := by
  unfold endPulse
  cases h : (s.out.get n).pulse with
  | none => simp
  | some p =>
    by_cases hm : m = n
    · subst hm
      cases b <;> simp [restOutput]
    · cases b <;> simp [restOutput, hm, Oct.get_set_ne]

theorem endIfMet_keeps (n : OutputId) (s : State) : KeepsBeyondTracking s (endIfMet n s) := by
  unfold endIfMet
  split
  · exact .refl s
  · split
    · exact endPulse_keeps n false s
    · exact .refl s

theorem endIfMet_counts (n : OutputId) (s : State) : KeepsCounts s (endIfMet n s) := by
  unfold endIfMet
  split
  · exact .refl s
  · split
    · exact endPulse_counts n false s
    · exact .refl s

theorem refuseBusy_keeps (n : OutputId) (r : Request) (s : State) : KeepsBeyondTracking s (refuseBusy n r s) :=
  (mapOutput_keeps n _ s).trans (missNotice_keeps _ _ _ _)

theorem refuseBusy_counts (n : OutputId) (r : Request) (s : State) : KeepsCounts s (refuseBusy n r s) :=
  (mapOutput_counts n _ s).trans (missNotice_counts _ _ _ _)

theorem takeStart_keeps (n : OutputId) (l : Bool) (r : Request) (s : State) : KeepsBeyondTracking s (takeStart n l r s) := by
  unfold takeStart
  dsimp only
  refine KeepsBeyondTracking.trans (mapOutput_keeps n (fun o => { o with waiting := o.waiting.erase r }) s) ?_
  split
  · split
    · exact ((beginPulse_keeps n _ _).trans (startNotice_keeps _ _ _ _ _)).trans (endIfMet_keeps n _)
    · exact (mapOutput_keeps n _ _).trans (startNotice_keeps _ _ _ _ _)
    · exact refuseBusy_keeps n r _
  · exact missNotice_keeps _ _ _ _

theorem takeStart_counts (n : OutputId) (l : Bool) (r : Request) (s : State) : KeepsCounts s (takeStart n l r s) := by
  unfold takeStart
  dsimp only
  refine KeepsCounts.trans (mapOutput_counts n (fun o => { o with waiting := o.waiting.erase r }) s) ?_
  split
  · split
    · exact ((beginPulse_counts n _ _).trans (startNotice_counts _ _ _ _ _)).trans (endIfMet_counts n _)
    · exact (mapOutput_counts n _ _).trans (startNotice_counts _ _ _ _ _)
    · exact refuseBusy_counts n r _
  · exact missNotice_counts _ _ _ _

theorem handRequest_keeps (n : OutputId) (r : Request) (s : State) : KeepsBeyondTracking s (handRequest n r s) := by
  unfold handRequest
  split
  · exact setOutcome_keeps _ _ _ s
  · dsimp only
    refine KeepsBeyondTracking.trans
      ((mapOutput_keeps n (fun o => { o with waiting := insertRequest r o.waiting }) s).trans
        (setOutcome_keeps r.tag r.station .armed _)) ?_
    split
    · exact KeepsBeyondTracking.foldl _ (fun s q => takeStart_keeps n _ q s) _ _
    · exact .refl _

theorem handRequest_counts (n : OutputId) (r : Request) (s : State) : KeepsCounts s (handRequest n r s) := by
  unfold handRequest
  split
  · exact setOutcome_counts _ _ _ s
  · dsimp only
    refine KeepsCounts.trans
      ((mapOutput_counts n (fun o => { o with waiting := insertRequest r o.waiting }) s).trans
        (setOutcome_counts r.tag r.station .armed _)) ?_
    split
    · exact KeepsCounts.foldl _ (fun s q => takeStart_counts n _ q s) _ _
    · exact .refl _

theorem tickEnd_keeps (n : OutputId) (s : State) : KeepsBeyondTracking s (tickEnd n s) := by
  unfold tickEnd
  split
  · exact .refl s
  · split
    · exact endPulse_keeps n false s
    · exact .refl s

theorem tickEnd_counts (n : OutputId) (s : State) : KeepsCounts s (tickEnd n s) := by
  unfold tickEnd
  split
  · exact .refl s
  · split
    · exact endPulse_counts n false s
    · exact .refl s

theorem takeStarts_keeps (n : OutputId) (rs : List Request) (s : State) : KeepsBeyondTracking s (takeStarts n rs s) :=
  KeepsBeyondTracking.foldl _ (fun s r => takeStart_keeps n false r s) rs s

theorem takeStarts_counts (n : OutputId) (rs : List Request) (s : State) : KeepsCounts s (takeStarts n rs s) :=
  KeepsCounts.foldl _ (fun s r => takeStart_counts n false r s) rs s

theorem tickOutput_keeps (k : Nat) (n : OutputId) (s : State) : KeepsBeyondTracking s (tickOutput k n s) :=
  ((takeStarts_keeps n _ s).trans (tickEnd_keeps n _)).trans (takeStarts_keeps n _ _)

theorem tickOutput_counts (k : Nat) (n : OutputId) (s : State) : KeepsCounts s (tickOutput k n s) :=
  ((takeStarts_counts n _ s).trans (tickEnd_counts n _)).trans (takeStarts_counts n _ _)

/-! ### TRK -/

theorem firstDecision_keeps (i : Item) (s : State) : KeepsBeyondTracking s (firstDecision i s) := by
  unfold firstDecision
  split
  · exact (mapItem_keeps _ _ s).trans (countLane_keeps _ _ _)
  · exact mapItem_keeps _ _ s
  · exact .refl s
  · exact .refl s

@[simp] theorem firstDecision_out (i : Item) (s : State) : (firstDecision i s).out = s.out := by
  unfold firstDecision
  split <;> simp

@[simp] theorem firstDecision_line (i : Item) (s : State) : (firstDecision i s).lcu = s.lcu := by
  unfold firstDecision
  split <;> simp

theorem commitEntry_keeps (t : Tag) (st : StationId) (s : State) : KeepsBeyondTracking s (commitEntry t st s) := by
  unfold commitEntry
  split
  · exact .refl s
  · split
    · dsimp only
      split
      · exact .refl s
      · exact handRequest_keeps _ _ s
      · split
        · exact (firstDecision_keeps _ s).trans (handRequest_keeps _ _ _)
        · exact (firstDecision_keeps _ s).trans (setOutcome_keeps _ _ _ _)
    · exact .refl s

theorem tickTracking_keeps (s : State) : KeepsBeyondTracking s (tickTracking s) :=
  KeepsBeyondTracking.foldl (fun s (p : Tag × StationId) => retireIfDone p.1 (commitEntry p.1 p.2 s))
    (fun s p => (commitEntry_keeps p.1 p.2 s).trans (retireIfDone_keeps _ _)) _ s

theorem placeItem_keeps (i : Item) (s : State) : KeepsBeyondTracking s (placeItem i s) := by
  unfold placeItem
  dsimp only
  split <;> exact ⟨rfl, rfl, rfl, rfl, rfl, rfl, rfl, rfl, rfl, rfl, rfl⟩

theorem selectPattern_keeps (t : Tag) (s : State) (st : StationId) : KeepsBeyondTracking s (selectPattern t s st) := by
  unfold selectPattern
  dsimp only
  split
  · split <;> exact ⟨rfl, rfl, rfl, rfl, rfl, rfl, rfl, rfl, rfl, rfl, rfl⟩
  · exact .refl s

theorem announceItem_keeps (i : Item) (s : State) : KeepsBeyondTracking s (announceItem i s) := by
  unfold announceItem
  split
  · exact (passEvent_keeps _ s).toKeepsBeyondTracking
  · exact .refl s

theorem createItem_keeps (r : CreationRequest) (s : State) : KeepsBeyondTracking s (createItem r s) :=
  ((((placeItem_keeps _ s).trans (KeepsBeyondTracking.foldl _ (selectPattern_keeps _) _ _)).trans
    (announceItem_keeps _ _)).trans (KeepsBeyondTracking.foldl _ (fun s st => commitEntry_keeps _ st s) _ _)).trans
    (retireIfDone_keeps _ _)

theorem takeCreation_keeps (r : CreationRequest) (s : State) : KeepsBeyondTracking s (takeCreation r s) := by
  unfold takeCreation
  split
  · exact countLane_keeps _ _ s
  · split
    · exact (countLane_keeps _ _ s).trans (passFault_keeps _ _).toKeepsBeyondTracking
    · exact createItem_keeps r s

theorem purgeEntry_keeps (t : Tag) (s : State) (st : StationId) : KeepsBeyondTracking s (purgeEntry t s st) := by
  unfold purgeEntry
  dsimp only
  split
  · exact setOutcome_keeps _ _ _ s
  · exact (mapOutput_keeps _ _ s).trans (setOutcome_keeps _ _ _ _)
  · exact (mapOutput_keeps _ _ s).trans (setOutcome_keeps _ _ _ _)
  · exact .refl s

theorem purgeEntry_counts (t : Tag) (s : State) (st : StationId) : KeepsCounts s (purgeEntry t s st) := by
  unfold purgeEntry
  dsimp only
  split <;> exact ⟨rfl, rfl, rfl⟩

@[simp] theorem purgeEntry_line (t : Tag) (s : State) (st : StationId) : (purgeEntry t s st).lcu = s.lcu := by
  unfold purgeEntry
  dsimp only
  split <;> rfl

theorem purgeItem_keeps (c : PurgeCause) (s : State) (i : Item) : KeepsBeyondTracking s (purgeItem c s i) := by
  unfold purgeItem
  dsimp only
  refine KeepsBeyondTracking.trans (KeepsBeyondTracking.foldl _ (purgeEntry_keeps i.tag) (i.entries.map (·.station)) s) ?_
  split
  · exact .refl _
  · exact removeItem_keeps _ _ _

theorem purgeItem_counts (c : PurgeCause) (s : State) (i : Item) : KeepsCounts s (purgeItem c s i) := by
  unfold purgeItem
  dsimp only
  refine KeepsCounts.trans (KeepsCounts.foldl _ (purgeEntry_counts i.tag) (i.entries.map (·.station)) s) ?_
  split
  · exact .refl _
  · exact removeItem_counts _ _ _

theorem purgeItems_keeps (c : PurgeCause) (scope : Option LaneId) (s : State) :
    KeepsBeyondTracking s (purgeItems c scope s) :=
  KeepsBeyondTracking.foldl _ (purgeItem_keeps c) _ s

theorem purgeItems_counts (c : PurgeCause) (scope : Option LaneId) (s : State) : KeepsCounts s (purgeItems c scope s) :=
  KeepsCounts.foldl _ (purgeItem_counts c) _ s

end Sys2Proof.Machine
end

