-- ==== Sys2Proof/Laws/Taking.lean ====
section
/-! SUPPORT. Laws/Taking.lean: the end of an event, and how a frame that CMD can take is taken and answered. -/

namespace Sys2Proof.Machine

open Sys2Proof

/-! ### LNK replaced -/

/-- The state with LNK replaced. -/
def State.withLnk (s : State) (l : Lnk) : State := { s with lnk := l }

@[simp] theorem withLnk_lnk (s : State) (l : Lnk) : (s.withLnk l).lnk = l := rfl
@[simp] theorem withLnk_rpt (s : State) (l : Lnk) : (s.withLnk l).rpt = s.rpt := rfl
@[simp] theorem withLnk_cmd (s : State) (l : Lnk) : (s.withLnk l).cmd = s.cmd := rfl
@[simp] theorem withLnk_lcu (s : State) (l : Lnk) : (s.withLnk l).lcu = s.lcu := rfl
@[simp] theorem withLnk_withLnk (s : State) (l m : Lnk) : (s.withLnk l).withLnk m = s.withLnk m := rfl
@[simp] theorem withLnk_self (s : State) : s.withLnk s.lnk = s := rfl
theorem mapLnk_eq (f : Lnk → Lnk) (s : State) : mapLnk f s = s.withLnk (f s.lnk) := rfl

/-! ### The latch and the end of an event -/

/-- Whether a comparison makes no STATUS report (R182, steps 1 to 3). -/
def State.comparesQuietly (s : State) : Bool :=
  s.rpt.queue.any (fun e => e.body.isStatus) || s.maskedDifferences == 0
    || decide (Config.reportCapacity ≤ s.rpt.queue.length)

theorem latchCompare_quiet {s : State} (h : s.comparesQuietly = true) : latchCompare s = s := by
  unfold latchCompare
  exact if_pos h

theorem latchCompare_reports {s : State} (h : s.comparesQuietly = false) :
    latchCompare s =
      { admitReport (.status s.liveStatus s.maskedDifferences) s with
        rpt := { (admitReport (.status s.liveStatus s.maskedDifferences) s).rpt with snapshot := s.liveStatus } } := by
  unfold latchCompare
  have h' : ¬ s.comparesQuietly = true := by rw [h]; decide
  exact if_neg h'

theorem latchCompare_withLnk (l : Lnk) (s : State) : latchCompare (s.withLnk l) = (latchCompare s).withLnk l := by
  have e : (s.withLnk l).comparesQuietly = s.comparesQuietly := rfl
  cases h : s.comparesQuietly with
  | true => rw [latchCompare_quiet h, latchCompare_quiet (e.trans h)]
  | false =>
    rw [latchCompare_reports h, latchCompare_reports (e.trans h)]
    rfl

/-- The latch reads and changes nothing of LNK. -/
theorem latch_withLnk (l : Lnk) (s : State) : latch (s.withLnk l) = (latch s).withLnk l := by
  unfold latch
  by_cases h : s.rpt.latchDue = true
  · rw [if_pos h, if_pos (by exact h)]
    exact latchCompare_withLnk l { s with rpt := { s.rpt with latchDue := false } }
  · rw [if_neg h, if_neg (by exact h)]

@[simp] theorem latch_latchDue (s : State) : (latch s).rpt.latchDue = false := by
  unfold latch latchCompare
  split
  · dsimp only
    split <;> rfl
  · rename_i h
    simpa using h

theorem latch_of_not_due {s : State} (h : s.rpt.latchDue = false) : latch s = s := by
  unfold latch
  rw [if_neg (by rw [h]; decide)]

theorem concluded_keeps (s : State) : KeepsBeyondReports s (concluded s) := (latch_keeps s).trans (keeps_rpt _ _)

/-- The arbiter with the transmitter busy (R166). -/
theorem arbitrate_busy {s : State} (h : s.lnk.sending.isSome = true) : arbitrate s = s := by
  unfold arbitrate
  rw [if_pos h]

/-- The arbiter with nothing available (R166). -/
theorem arbitrate_nothing {s : State}
    (h : s.lnk.sending = none → s.lnk.notice = none ∧ s.lnk.replies = [] ∧ s.rpt.offered = none) : arbitrate s = s := by
  unfold arbitrate
  split
  · rfl
  · rename_i hn
    obtain ⟨h1, h2, h3⟩ := h (by simpa using hn)
    rw [h1, h2, h3]

/-- The arbiter's choice of the oldest reply (R166). -/
theorem arbitrate_reply {s : State} {r : Reply} {rs : List Reply} (hs : s.lnk.sending = none) (hn : s.lnk.notice = none)
    (hr : s.lnk.replies = r :: rs) :
    arbitrate s = s.withLnk { s.lnk with replies := rs, sending := some ⟨0x80, r.seq, r.payload, r.effect⟩ } := by
  unfold arbitrate
  rw [if_neg (by rw [hs]; decide), hn, hr]
  rfl

/-- The end of an event whose transmitter is busy. -/
theorem endEvent_busy {s : State} (h : s.lnk.sending.isSome = true) : endEvent s = concluded s := by
  unfold endEvent concluded
  rw [arbitrate_busy (by rw [(latch_keeps s).lnk]; exact h)]

theorem settled_endEvent {s : State} (h : Settled s) : endEvent s = s := by
  obtain ⟨hl, hs, ha⟩ := h
  unfold endEvent
  rw [latch_of_not_due hl, arbitrate_nothing hs]
  dsimp only
  rw [← ha]

/-- A change of LNK that leaves the hold flag leaves the conclusion of a settled state as it is. -/
theorem concluded_of_settled {s : State} (h : Settled s) {l : Lnk} (hl : l.hold = s.lnk.hold) :
    concluded (s.withLnk l) = s.withLnk l := by
  obtain ⟨hd, -, ha⟩ := h
  unfold concluded
  rw [latch_of_not_due (by exact hd)]
  have e : (s.withLnk l).attentionDue = (s.withLnk l).rpt.attention := by
    show _ = s.rpt.attention
    rw [ha]
    unfold State.attentionDue
    rw [withLnk_lnk, hl]
    rfl
  dsimp only
  rw [e]

/-- A reply queued where the transmitter is busy or nothing else waits: it is queued or begun, and the event concludes. -/
theorem endEvent_queueReply {s : State} (r : Reply) (h : s.lnk.sending = none → s.lnk.notice = none ∧ s.lnk.replies = []) :
    endEvent (queueReply r s) = concluded (s.withLnk (s.lnk.withReply r)) := by
  have e0 : queueReply r s = s.withLnk { s.lnk with replies := s.lnk.replies ++ [r] } := rfl
  unfold Lnk.withReply
  by_cases hs : s.lnk.sending.isSome = true
  · rw [e0, if_pos hs, endEvent_busy (by exact hs)]
  · have hn : s.lnk.sending = none := by simpa using hs
    rw [e0, if_neg hs]
    unfold endEvent concluded
    rw [latch_withLnk, latch_withLnk]
    have hr : { s.lnk with replies := s.lnk.replies ++ [r] }.replies = r :: [] := by simp [(h hn).2]
    rw [arbitrate_reply (s := (latch s).withLnk { s.lnk with replies := s.lnk.replies ++ [r] }) hn (h hn).1 hr]
    rw [withLnk_withLnk, withLnk_lnk]
    have : ({ { s.lnk with replies := s.lnk.replies ++ [r] } with
        replies := [], sending := some ⟨0x80, r.seq, r.payload, r.effect⟩ } : Lnk)
        = { s.lnk with sending := some ⟨0x80, r.seq, r.payload, r.effect⟩ } := by
      rw [← (h hn).2]
    rw [this]

theorem endEvent_answerTaken {s : State} (kind seq : Byte) (crc : BitVec 16) (a : Answer)
    (h : s.lnk.sending = none → s.lnk.notice = none ∧ s.lnk.replies = []) :
    endEvent (answerTaken kind seq crc a s) =
      concluded (s.withLnk ({ s.lnk with cache := some ⟨seq, crc, replyPayload kind a⟩ }.withReply
        ⟨seq, replyPayload kind a, a.effect⟩)) :=
  endEvent_queueReply (s := s.withLnk { s.lnk with cache := some ⟨seq, crc, replyPayload kind a⟩ })
    ⟨seq, replyPayload kind a, a.effect⟩ h

/-! ### A frame that CMD can take -/

/-- A frame that arrives where CMD can take it is judged in the same row (R157). -/
theorem receiveFrame_canTake {s : State} {kind seq : Byte} {p : List Byte} (h : CanTake s) :
    receiveFrame kind seq p s = endEvent (judgeTaken (goodFrame kind seq p) (s.withLnk s.lnk.counted)) := by
  obtain ⟨hs, hc, hr, hq⟩ := h
  have hlen : s.lnk.received.length < Config.linkQueueCapacity := by rw [hr]; decide
  have e1 : offerFrame ⟨kind, seq, p, frameCrc kind seq p⟩ s
      = s.withLnk { s.lnk.counted with received := [goodFrame kind seq p] } := by
    unfold offerFrame
    rw [if_pos hlen]
    show s.withLnk _ = s.withLnk _
    rw [mapLnk_lnk, hr]
    rfl
  have hset : Settled (s.withLnk { s.lnk.counted with received := [goodFrame kind seq p] }) := hs
  unfold receiveFrame settle
  rw [e1]
  dsimp only
  rw [settled_endEvent hset]
  show takeFrames 1 _ = _
  have e2 : mapLnk (fun l => { l with received := [] })
      (s.withLnk { s.lnk.counted with received := [goodFrame kind seq p] }) = s.withLnk s.lnk.counted := by
    show s.withLnk _ = s.withLnk _
    rw [withLnk_lnk, ← hr]
    rfl
  rw [← e2, takeFrames]
  rw [withLnk_cmd, hc]
  have hq' : s.lnk.counted.replies.length < Config.linkQueueCapacity := hq
  exact if_pos hq'

/-- A new command, neither held nor a duplicate, goes on to its kind and length (R158). -/
theorem receiveFrame_takes {s : State} {kind seq : Byte} {p : List Byte} (h : Takes s kind seq p)
    (hr : kind ≠ Kind.linkResume.code) :
    receiveFrame kind seq p s = endEvent (takeCommand (goodFrame kind seq p) (s.withLnk s.lnk.counted)) := by
  obtain ⟨hc, hh, hd⟩ := h
  rw [receiveFrame_canTake hc]
  unfold judgeTaken
  have h1 : (s.withLnk s.lnk.counted).lnk.hold = false := hh
  have h2 : (s.withLnk s.lnk.counted).lnk.duplicateOf (goodFrame kind seq p) = none := hd
  have h3 : ¬ (goodFrame kind seq p).kind = Kind.linkResume.code := hr
  rw [h1, h2, Bool.false_and, if_neg (by decide), if_neg h3]

/-- What the answer of a taken command brings, whatever the owner did but to LNK. -/
theorem endEvent_taken {s s' : State} {kind seq : Byte} {p : List Byte} (a : Answer) (h : Takes s kind seq p)
    (hlnk : s'.lnk = (s.taking seq).lnk) :
    endEvent (answerTaken kind seq (frameCrc kind seq p) a s') = concluded (s'.withLnk (s.lnk.afterTaken kind seq p a)) := by
  rw [endEvent_answerTaken]
  · rw [hlnk]
    rfl
  · rw [hlnk]
    intro hn
    exact ⟨(h.1.1.2.1 hn).1, (h.1.1.2.1 hn).2.1⟩

theorem afterTaken_hold (l : Lnk) (kind seq : Byte) (p : List Byte) (a : Answer) :
    (l.afterTaken kind seq p a).hold = l.hold := by
  unfold Lnk.afterTaken Lnk.withReply
  split <;> rfl

/-- Step 6 of R158 is reached by a command of a known kind and an admitted length. -/
theorem takeCommand_admitted {s : State} {kind seq : Byte} {p : List Byte} {k : Kind} (hk : kindOf kind = some k)
    (hl : k.admits p.length = true) :
    takeCommand (goodFrame kind seq p) (s.withLnk s.lnk.counted) = executeCommand k (goodFrame kind seq p) (s.taking seq) := by
  unfold takeCommand
  have hk' : kindOf (goodFrame kind seq p).kind = some k := hk
  have hl' : k.admits (goodFrame kind seq p).payload.length = true := hl
  rw [hk']
  dsimp only
  rw [if_pos hl']
  rfl

@[simp] theorem goodFrame_kind (kind seq : Byte) (p : List Byte) : (goodFrame kind seq p).kind = kind := rfl
@[simp] theorem goodFrame_seq (kind seq : Byte) (p : List Byte) : (goodFrame kind seq p).seq = seq := rfl
@[simp] theorem goodFrame_payload (kind seq : Byte) (p : List Byte) : (goodFrame kind seq p).payload = p := rfl
@[simp] theorem goodFrame_crc (kind seq : Byte) (p : List Byte) : (goodFrame kind seq p).crc = frameCrc kind seq p := rfl

theorem executeCommand_instant {s s' : State} {f : Frame} {k : Kind} {a : Answer}
    (hx : instantCommand k f.payload s = some (s', a)) : executeCommand k f s = answerTaken f.kind f.seq f.crc a s' := by
  unfold executeCommand
  rw [hx]

theorem executeCommand_begins {s : State} {f : Frame} {k : Kind} (hx : instantCommand k f.payload s = none) :
    executeCommand k f s = beginCommand k f s := by
  unfold executeCommand
  rw [hx]

theorem beginCommand_settled {s : State} (k : Kind) (f : Frame) (h : Settled s) : Settled (beginCommand k f s) := by
  cases k <;> exact h

/-- A command that its owner completes in its taking event (R157, R160). -/
theorem receiveFrame_instant {s s' : State} {kind seq : Byte} {p : List Byte} {k : Kind} {a : Answer}
    (h : Takes s kind seq p) (hr : kind ≠ Kind.linkResume.code) (hk : kindOf kind = some k)
    (hl : k.admits p.length = true) (hx : instantCommand k p (s.taking seq) = some (s', a))
    (hlnk : s'.lnk = (s.taking seq).lnk) :
    receiveFrame kind seq p s = concluded { s' with lnk := s.lnk.afterTaken kind seq p a } := by
  rw [receiveFrame_takes h hr, takeCommand_admitted hk hl]
  rw [executeCommand_instant (f := goodFrame kind seq p) hx, goodFrame_kind, goodFrame_seq, goodFrame_crc,
    endEvent_taken a h hlnk]
  rfl

/-- A command that begins and takes time (R157). -/
theorem receiveFrame_begins {s : State} {kind seq : Byte} {p : List Byte} {k : Kind}
    (h : Takes s kind seq p) (hr : kind ≠ Kind.linkResume.code) (hk : kindOf kind = some k)
    (hl : k.admits p.length = true) (hx : instantCommand k p (s.taking seq) = none) :
    receiveFrame kind seq p s = beginCommand k (goodFrame kind seq p) (s.taking seq) := by
  rw [receiveFrame_takes h hr, takeCommand_admitted hk hl]
  rw [executeCommand_begins (f := goodFrame kind seq p) hx]
  exact settled_endEvent (beginCommand_settled (s := s.taking seq) k _ h.1.1)

/-- A command that changes nothing but LNK by its reply. -/
theorem receiveFrame_inspect {s : State} {kind seq : Byte} {p : List Byte} {k : Kind} {a : Answer}
    (h : Takes s kind seq p) (hr : kind ≠ Kind.linkResume.code) (hk : kindOf kind = some k)
    (hl : k.admits p.length = true) (hx : instantCommand k p (s.taking seq) = some (s.taking seq, a)) :
    receiveFrame kind seq p s = { s with lnk := s.lnk.afterTaken kind seq p a } := by
  rw [receiveFrame_instant h hr hk hl hx rfl]
  exact concluded_of_settled h.1.1 (afterTaken_hold _ _ _ _ _)

/-- A command of a length its kind does not admit (R158, step 5). -/
theorem receiveFrame_badLength {s : State} {kind seq : Byte} {p : List Byte} {k : Kind}
    (h : Takes s kind seq p) (hr : kind ≠ Kind.linkResume.code) (hk : kindOf kind = some k)
    (hl : k.admits p.length = false) :
    receiveFrame kind seq p s = { s with lnk := s.lnk.afterTaken kind seq p (answer .badLength []) } := by
  rw [receiveFrame_takes h hr]
  have e : takeCommand (goodFrame kind seq p) (s.withLnk s.lnk.counted)
      = answerTaken kind seq (frameCrc kind seq p) (answer .badLength []) (s.taking seq) := by
    unfold takeCommand
    have hk' : kindOf (goodFrame kind seq p).kind = some k := hk
    have hl' : ¬ k.admits (goodFrame kind seq p).payload.length = true := by
      show ¬ k.admits p.length = true
      rw [hl]; decide
    rw [hk']
    dsimp only
    rw [if_neg hl']
    rfl
  rw [e, endEvent_taken _ h rfl]
  exact concluded_of_settled (s := s) h.1.1 (afterTaken_hold _ _ _ _ _)

/-- A frame of a KIND that is no command's (R158, step 4). -/
theorem receiveFrame_badKind {s : State} {kind seq : Byte} {p : List Byte}
    (h : Takes s kind seq p) (hk : kindOf kind = none) :
    receiveFrame kind seq p s = { s with lnk := s.lnk.afterTaken kind seq p (answer .badKind []) } := by
  have hr : kind ≠ Kind.linkResume.code := by
    intro hc
    rw [hc] at hk
    exact absurd hk (by decide)
  rw [receiveFrame_takes h hr]
  have e : takeCommand (goodFrame kind seq p) (s.withLnk s.lnk.counted)
      = answerTaken kind seq (frameCrc kind seq p) (answer .badKind []) (s.taking seq) := by
    unfold takeCommand
    have hk' : kindOf (goodFrame kind seq p).kind = none := hk
    rw [hk']
    rfl
  rw [e, endEvent_taken _ h rfl]
  exact concluded_of_settled (s := s) h.1.1 (afterTaken_hold _ _ _ _ _)

/-- The rows that are frames are the arrival of their frame (R156). -/
theorem exec_frame {c : Instr} {k q : Byte} {p : List Byte} (h : frameOfRow c = some (k, q, p)) (s : State) :
    exec c s = .next (receiveFrame k q p s) := by
  cases c <;> simp [frameOfRow] at h <;> obtain ⟨rfl, rfl, rfl⟩ := h <;> rfl

end Sys2Proof.Machine
end

