-- ==== Sys2Proof/Laws/Settling.lean ====
section
/-! SUPPORT. Laws/Settling.lean: an event after which CMD takes no frame, and what the end of an event keeps. -/

namespace Sys2Proof.Machine

open Sys2Proof

/-! ### What the end of an event keeps -/

/-- The arbiter changes the transmitter, the notice slot and the reply queue of LNK, and RPT (R166). -/
theorem arbitrate_keeps (s : State) :
    (arbitrate s).pending = s.pending ∧ (arbitrate s).now = s.now ∧ (arbitrate s).pins = s.pins ∧ (arbitrate s).lcu = s.lcu
      ∧ (arbitrate s).mot = s.mot ∧ (arbitrate s).det = s.det ∧ (arbitrate s).requests = s.requests
      ∧ (arbitrate s).trk = s.trk ∧ (arbitrate s).out = s.out ∧ (arbitrate s).cmd = s.cmd ∧ (arbitrate s).drawn = s.drawn
      ∧ (arbitrate s).lnk.received = s.lnk.received := by
  unfold arbitrate
  split
  · exact ⟨rfl, rfl, rfl, rfl, rfl, rfl, rfl, rfl, rfl, rfl, rfl, rfl⟩
  · split <;> exact ⟨rfl, rfl, rfl, rfl, rfl, rfl, rfl, rfl, rfl, rfl, rfl, rfl⟩

theorem endEvent_keeps (s : State) :
    (endEvent s).pending = s.pending ∧ (endEvent s).now = s.now ∧ (endEvent s).pins = s.pins ∧ (endEvent s).lcu = s.lcu
      ∧ (endEvent s).mot = s.mot ∧ (endEvent s).det = s.det ∧ (endEvent s).requests = s.requests
      ∧ (endEvent s).trk = s.trk ∧ (endEvent s).out = s.out ∧ (endEvent s).cmd = s.cmd ∧ (endEvent s).drawn = s.drawn
      ∧ (endEvent s).lnk.received = s.lnk.received := by
  obtain ⟨h1, h2, h3, h4, h5, h6, h7, h8, h9, h10, h11, h12⟩ := arbitrate_keeps (latch s)
  have k := latch_keeps s
  have hl : (latch s).lcu = s.lcu := by
    have e1 := k.staged
    have e2 := k.active
    have e3 := k.line
    cases hx : (latch s).lcu
    cases hy : s.lcu
    rw [hx, hy] at e1 e2 e3
    simp_all
  exact ⟨h1.trans k.pending, h2.trans k.now, h3.trans k.pins, h4.trans hl, h5.trans k.mot, h6.trans k.det,
    h7.trans k.requests, h8.trans k.trk, h9.trans k.out, h10.trans k.cmd, h11.trans k.drawn,
    h12.trans (by rw [k.lnk])⟩

/-! ### No frame to take -/

theorem takeFrames_none (k : Nat) {s : State}
    (h : s.cmd ≠ .idle ∨ s.lnk.received = [] ∨ Config.linkQueueCapacity ≤ s.lnk.replies.length) : takeFrames k s = s := by
  cases k with
  | zero => rfl
  | succ k =>
    unfold takeFrames
    split
    · rename_i f fs hc hr
      rcases h with h | h | h
      · exact absurd hc h
      · rw [hr] at h
        exact absurd h (by simp)
      · rw [if_neg (by omega)]
    · rfl

/-- An event's end, and then the taking of the frames that wait (R157). -/
theorem settle_eq (s : State) : settle s = takeFrames s.lnk.received.length (endEvent s) := by
  obtain ⟨-, -, -, -, -, -, -, -, -, -, -, hr⟩ := endEvent_keeps s
  unfold settle
  dsimp only
  rw [hr]

/-- A row whose event ends in a settled state with the receive queue as it was: the waiting frames are taken from there (R157). -/
theorem settle_of_endEvent {s t : State} (h : endEvent s = t) : settle s = takeFrames s.lnk.received.length t := by
  rw [settle_eq, h]

/-- An event after which CMD takes no frame only ends (R157). -/
theorem settle_noFrame {s : State} (h : NoFrameTaken s) : settle s = endEvent s := by
  unfold settle
  apply takeFrames_none
  obtain ⟨-, -, -, -, -, -, -, -, -, hc, -, hr⟩ := endEvent_keeps s
  rcases h with h | h | ⟨h1, h2⟩
  · exact .inl (by rw [hc]; exact h)
  · exact .inr (.inl (by rw [hr]; exact h))
  · refine .inr (.inr ?_)
    rw [endEvent_busy h1, (concluded_keeps s).lnk]
    exact h2

/-- In a quiet state nothing follows a row that changes nothing. -/
theorem settle_quiet {s : State} (h : Quiet s) : settle s = s := by
  rw [settle_noFrame h.2, settled_endEvent h.1]

/-- A change of LNK that leaves a quiet state quiet, with hold as it was. -/
theorem settle_withLnk {s : State} (h : Quiet s) {l : Lnk} (hh : l.hold = s.lnk.hold) (hs : l.sending = s.lnk.sending)
    (hn : l.notice = s.lnk.notice) (hr : l.replies = s.lnk.replies) (hv : l.received = s.lnk.received) :
    settle (s.withLnk l) = s.withLnk l := by
  apply settle_quiet
  refine ⟨⟨h.1.1, ?_, ?_⟩, ?_⟩
  · intro hx
    rw [withLnk_lnk] at hx ⊢
    rw [hn, hr]
    exact h.1.2.1 (hs.symm.trans hx)
  · show s.rpt.attention = _
    rw [h.1.2.2]
    unfold State.attentionDue
    rw [withLnk_lnk, hh]
    rfl
  · unfold NoFrameTaken
    rw [withLnk_lnk, hv, hs, hr]
    exact h.2

/-- A frame error in hold: the partial frame dropped and the cause counted (R154, R161). -/
theorem frameError_held {s : State} (cause : LinkError) (hh : s.lnk.hold = true) :
    frameError cause s = s.withLnk { s.lnk with receiver := .hunt, counters := s.lnk.counters.countError cause } := by
  unfold frameError
  dsimp only
  exact if_pos hh

/-- A frame error out of hold: besides, hold is entered and the notice placed (R154, R161). -/
theorem frameError_entersHold {s : State} (cause : LinkError) (hh : s.lnk.hold = false) :
    frameError cause s = s.withLnk { s.lnk with
      receiver := .hunt, counters := s.lnk.counters.countError cause, hold := true, discards := 0,
      notice := some ⟨cause, s.lnk.lastTaken⟩ } := by
  unfold frameError
  dsimp only
  have h : ¬ s.lnk.hold = true := by rw [hh]; decide
  exact if_neg h

/-- A change of a quiet state's receiver and counters is followed by nothing. -/
theorem settle_frameError_held {s : State} (h : Quiet s) (cause : LinkError) (hh : s.lnk.hold = true) :
    settle (frameError cause s) =
      s.withLnk { s.lnk with receiver := .hunt, counters := s.lnk.counters.countError cause } := by
  rw [frameError_held cause hh]
  exact settle_withLnk h rfl rfl rfl rfl rfl

/-- A frame error out of hold in a quiet state (R154, R161, R166, R185). -/
theorem settle_frameError {s : State} (h : Quiet s) (cause : LinkError) (hh : s.lnk.hold = false) :
    settle (frameError cause s) =
      { s with lnk := s.lnk.afterError cause, rpt := { s.rpt with attention := true } } := by
  rw [frameError_entersHold cause hh, settle_noFrame (by exact h.2)]
  unfold endEvent
  rw [latch_of_not_due (by exact h.1.1)]
  unfold Lnk.afterError
  by_cases hs : s.lnk.sending.isSome = true
  · rw [arbitrate_busy (by exact hs)]
    dsimp only
    rw [if_pos hs]
    rfl
  · have hn : s.lnk.sending = none := by simpa using hs
    unfold arbitrate
    rw [if_neg (by exact hs)]
    dsimp only [withLnk_lnk]
    rw [if_neg hs, ← (h.1.2.1 hn).1]
    rfl

end Sys2Proof.Machine
end

