-- ==== Sys2Proof/Tests/Slice0.lean ====
section
/-! SUPPORT. Tests/Slice0.lean: the smoke test of WellFormed, tests of single rows against the data book's tables and worked
examples, and for every statement with hypotheses a state and operands that meet them, clause by clause. -/

namespace Sys2Proof.Tests

open Sys2Proof Sys2Proof.Machine

/-! ### WellFormed -/

set_option maxRecDepth 4000 in
/-- A payload longer than 248 bytes is ill-formed (R196). -/
theorem test_wellFormed_payload_refused :
    (Instr.start 0 (List.replicate 249 0)).wellFormed = false ∧ (Instr.start 0 (List.replicate 248 0)).wellFormed = true := by decide

set_option maxRecDepth 4000 in
/-- In a FORCE_OUTPUT row the output and action bytes count (R196, R200). -/
theorem test_wellFormed_force_refused :
    (Instr.forceOutputOn 0 0 (List.replicate 247 0)).wellFormed = false
      ∧ (Instr.forceOutputOff 0 0 (List.replicate 246 0)).wellFormed = true := by decide

/-- BAD_KIND is no command kind (R198). -/
theorem test_wellFormed_badKind_refused :
    (Instr.badKind 0x10 0 []).wellFormed = false ∧ (Instr.badKind 0x17 0 []).wellFormed = true
      ∧ (Instr.badKind 0x80 0 []).wellFormed = true := by decide

/-- An order of a tick names no output twice. -/
theorem test_wellFormed_order_refused :
    (Instr.paceCount ⟨[1], [1], Oct.same 0⟩).wellFormed = false
      ∧ (Instr.encoderTransition true false ⟨[1, 2], [3], Oct.same 0⟩).wellFormed = true
      ∧ (Instr.advanceCount ⟨[4, 4], [], Oct.same 0⟩).wellFormed = false := by decide

/-- No row of the table gives bits, so no word spells a command. -/
theorem test_no_word_decodes : decodeTableWord 8 0x10 = none := by decide

/-! ### Fields and codes -/

/-- Numbers are little-endian (R197). -/
theorem test_littleEndian : littleEndian 4 0x01020304 = [4, 3, 2, 1] := by decide

/-- The part code is VT4120 in ASCII (R203; ASCII is presumed, notes/assumptions/25.md). -/
theorem test_partCode : ("VT4120".toList.map fun c => BitVec.ofNat 8 c.toNat) = [0x56, 0x54, 0x34, 0x31, 0x32, 0x30] := by decide

/-- The CRC register after one zero byte: 0xFF00 shifted eight times with the polynomial 0x1021 (R2), by hand. -/
theorem test_crc_one_byte : crcOf [0x00] = 0xE1F0 := by decide

set_option maxRecDepth 4000 in
/-- The published check value of this CRC, over the nine characters 123456789, known from outside the data book. -/
theorem test_crc_check_value : crcOf [0x31, 0x32, 0x33, 0x34, 0x35, 0x36, 0x37, 0x38, 0x39] = 0x29B1 := by decide

/-- 1 follows 65535 (R5). -/
theorem test_tag_wraps : tagAfter 65535 = 1 ∧ tagAfter 65534 = 65535 := by decide

/-- The reference line's geometry, r 10,000: S0 commit 11,300, start 11,500; S1 commit 17,620, start 19,120, end 19,520 (12.1). -/
theorem test_geometry :
    let x : StationConfig := ⟨.capture, 0, 0, 1500, 0, 200, .time, 40, 0, 2, 1⟩
    let y : StationConfig := ⟨.actuate, 0, 4, 9000, 120, 1500, .ticks, 400, 0x88, 1, 1⟩
    x.commitPoint 10000 = 11300 ∧ x.startPosition 10000 = 11500 ∧ y.commitPoint 10000 = 17620
      ∧ y.startPosition 10000 = 19120 ∧ y.durationFor 10000 = .ticks 19520 := by decide

/-! ### Small states -/

/-- The state a row leaves. -/
def after (c : Instr) (s : State) : State :=
  match exec c s with
  | .next t => t
  | _ => s

/-- The reset state with a line state, ATTN as it says. -/
def onLine (l : LineState) : State :=
  { State.reset with
    lcu := { Lcu.reset with line := l }
    rpt := { Rpt.reset with attention := l == .halted } }

/-- An item of lane 0 with these entries. -/
def itemOf (t : Tag) (v : Verdict) (es : List (StationId × StationOutcome)) : Item :=
  ⟨t, 0, 10000, 10000, some 800, false, v, false, none, es.map fun e => ⟨e.1, e.2, false, false, false⟩⟩

/-- A line in RUN or DRAINING with these items. -/
def withItems (l : LineState) (is : List Item) : State :=
  { onLine l with trk := { Trk.reset with table := is, nextTag := 100 } }

/-- The reset state with another active copy. -/
def withActive (s : State) (c : Configuration) : State := { s with lcu := { s.lcu with active := c } }

/-- The reset state in hold. -/
def heldState : State :=
  { State.reset with lnk := { Lnk.reset 0 with hold := true }, rpt := { Rpt.reset with attention := true } }

/-- The configuration of the reference line (12.1). -/
def referenceLine : Configuration :=
  { defaultConfiguration with
    motion := ⟨.hostStep, false, 1000, 64, 500⟩
    lanes := (Quad.same defaultLane).set 0 ⟨true, .activeHigh, .trailing, 200, 300, 50, 2000, 0, false⟩
    stations := ((Oct.ofFn defaultStation).set 0 ⟨.capture, 0, 0, 1500, 0, 200, .time, 40, 0, 2, 1⟩).set 1
      ⟨.actuate, 0, 4, 9000, 120, 1500, .ticks, 400, 0x88, 1, 1⟩
    outputs := ((Oct.same defaultOutput).set 0 ⟨true, .activeHigh, .reject, 0, 0⟩).set 4
      ⟨true, .activeHigh, .merge, 15000, 200⟩ }

/-- The reference line in RUN at a position, with these items. -/
def referenceRun (position : Nat) (is : List Item) : State :=
  let s := withActive (withItems .run is) referenceLine
  { s with mot := { s.mot with position := position } }

/-- A state with LNK changed. -/
def onLnk (s : State) (f : Lnk → Lnk) : State := { s with lnk := f s.lnk }

/-! ### Rows against the tables and worked examples -/

/-- IDENTIFY after pin reset with both straps high: rate code 3 (12.2). -/
theorem test_identify : (after (.identify 1 []) (after (.pinReset true true) State.reset)).lnk.sending
    = some ⟨0x80, 1, [0x01, 0, 0x56, 0x54, 0x34, 0x31, 0x32, 0x30, 1, 128, 4, 8, 8, 64, 3], .none⟩ := by decide

/-- START with no enabled lane: INVALID_CONFIG, NO_ENABLED_LANE, LANE 0 (12.2). -/
theorem test_start_refused : (after (.start 8 []) State.reset).lnk.sending
    = some ⟨0x80, 8, [0x10, 0x14, 0, 0, 10, 1, 0], .none⟩ := by decide

/-- START on the reference line: the line in RUN, and STATUS 0 admitted with the changed list LINE_STATE (12.2). -/
theorem test_start_runs :
    let t := after (.start 11 []) (withActive State.reset referenceLine)
    t.lcu.line = .run ∧ t.rpt.queue.map (fun e => (e.number, e.body.bytes)) = [(0, [1, 0, 0, 1, 0])] := by decide

/-- The tick to 11,300 is the commit of S0: OUT0 accepts, start 11,500, 40 us (12.3). -/
theorem test_commit_capture :
    let s := referenceRun 11299 [itemOf 1 .none [(0, .wait), (1, .wait)]]
    let t := after (.advanceCount .standard) { s with cmd := .advancing ⟨0x29, 20, 0, false⟩ 0 1 0 0 }
    t.mot.position = 11300 ∧ (t.out.get 0).waiting = [⟨1, 0, 11500, .time 40⟩] ∧ t.outcome? 1 0 = some .armed := by decide

/-- The tick to 17,620 fixes class 7 and arms OUT4, start 19,120, end 19,520 (12.3). -/
theorem test_commit_actuate :
    let s := referenceRun 17619 [itemOf 1 (.opened 7) [(0, .fired), (1, .wait)]]
    let t := after (.advanceCount .standard) { s with cmd := .advancing ⟨0x29, 20, 0, false⟩ 0 1 0 0 }
    (t.out.get 4).waiting = [⟨1, 1, 19120, .ticks 19520⟩] ∧ (t.item? 1).map (·.verdict) = some (.fixed 7) := by decide

/-- Commit first: the unjudged item defaults to class 0, PASS retires it, and it leaves the table (12.4). -/
theorem test_default_passes :
    let s := referenceRun 29619 [⟨2, 0, 22000, 22000, some 500, false, .none, false, none,
      [⟨0, .skipped, false, false, false⟩, ⟨1, .wait, false, false, false⟩]⟩]
    let t := after (.advanceCount .standard) { s with cmd := .advancing ⟨0x29, 31, 0, false⟩ 0 1 0 0 }
    t.trk.table = [] ∧ (t.trk.lanes.get 0).defaulted = 1 ∧ (t.trk.stations.get 1).passed = 1 := by decide

/-- VERDICT (1, 7) on an item in NONE: one pair, ACCEPTED (12.3). -/
theorem test_verdict_accepted :
    let s := { referenceRun 12000 [itemOf 1 .none [(0, .fired), (1, .wait)]] with
      cmd := .judging ⟨0x20, 21, 0, false⟩ [(1, 7)] [] }
    (after .verdictPair s).lnk.sending = some ⟨0x80, 21, [0x20, 0, 1, 1], .none⟩ := by decide

/-- A start on ACTIVE OUT4 under MERGE: end 50,070, both attached, MERGED counted (12.5). -/
theorem test_merge :
    let s := referenceRun 49669 [itemOf 3 (.fixed 7) [(1, .active)], itemOf 4 (.fixed 7) [(1, .armed)]]
    let s := { s with
      cmd := .advancing ⟨0x29, 47, 0, false⟩ 0 1 0 0
      out := s.out.set 4 { Output.reset with
        state := .active, level := true, pulse := some ⟨some 49720, none, [(3, 1)]⟩, waiting := [⟨4, 1, 49670, .ticks 50070⟩] } }
    let o := (after (.advanceCount .standard) s).out.get 4
    o.pulse = some ⟨some 50070, none, [(3, 1), (4, 1)]⟩ ∧ o.merged = 1 := by decide

/-- A start in RECOVERY: MISSED:BUSY, counted, and the item retires (12.5). -/
theorem test_busy_miss :
    let s := referenceRun 50319 [itemOf 5 (.fixed 3) [(1, .armed)]]
    let s := { s with
      cmd := .advancing ⟨0x29, 47, 0, false⟩ 0 1 0 0
      out := s.out.set 4 { Output.reset with
        state := .recovery, recovery := some 15000, waiting := [⟨5, 1, 50320, .ticks 50720⟩] } }
    let t := after (.advanceCount .standard) s
    t.trk.table = [] ∧ (t.out.get 4).busyMisses = 1 ∧ (t.trk.stations.get 1).missed = 1 := by decide

/-- Reverse count 65 with limit 64 in DRAINING: TRACK_LOST with debt 65, the table purged, SETUP (12.6). -/
theorem test_track_lost :
    let s := withItems .draining [itemOf 7 .none [(1, .wait)]]
    let s := { s with mot := { s.mot with position := 66000, debt := 64 } }
    let t := after (.encoderTransition false true .standard) s
    t.lcu.line = .setup ∧ t.trk.table = [] ∧ t.mot.debt = 65
      ∧ (t.rpt.queue.head?.map (·.body)) = some (.fault (.trackLost 66000 65) 1 0) := by decide

/-- The link in hold answers HELD and counts (12.7). -/
theorem test_held :
    let t := after (.getStatus 52 []) heldState
    t.lnk.sending = some ⟨0x80, 52, [0x04, 0x16], .none⟩ ∧ t.lnk.discards = 1 := by decide

/-- LINK_RESUME names the last taken SEQ and the discard count, and ends hold (12.7). -/
theorem test_link_resume :
    let s := onLnk heldState fun l => { l with lastTaken := some 50, discards := 1 }
    let t := after (.linkResume 53 []) s
    t.lnk.sending = some ⟨0x80, 53, [0x03, 0, 1, 1, 50, 1, 0], .none⟩ ∧ t.lnk.hold = false ∧ t.rpt.attention = false := by decide

/-- A leading edge at 40,300 is outside a holdoff of 300 from 40,000 (12.5). -/
theorem test_holdoff_edge : withinHoldoff (some 40000) 300 40300 = false ∧ withinHoldoff (some 40000) 300 40299 = true := by
  decide

/-- The length of an object from 9,200 to 10,000 is 800, and its request stands at 10,000 (12.3). -/
theorem test_trailing_request :
    let s := referenceRun 10000 []
    let s := { s with det := s.det.set 0 ⟨.present, some ⟨false, 10000, 200⟩, some 9200, some 9200, 0, 0, 0⟩ }
    (after (.debounceExpiry 0) s).requests = [⟨0, 10000, some 800, false⟩] := by decide

/-- A creation on the reference line: tag 1, S0 WAIT, S1 WAIT, S0's counter then 1 (12.3). -/
theorem test_creation :
    let s := { referenceRun 10000 [] with requests := [⟨0, 10000, some 800, false⟩] }
    let s := { s with trk := Trk.reset }
    let t := after (.creationRequest 0) s
    t.trk.table = [itemOf 1 .none [(0, .wait), (1, .wait)]] ∧ t.trk.nextTag = 2 ∧ t.trk.patterns.get 0 = 1 := by decide

/-- With the pattern counter at entry 1, skip, S0 is SKIPPED at creation and the counter returns to 0 (12.4). -/
theorem test_creation_skips :
    let s := { referenceRun 22000 [] with requests := [⟨0, 22000, some 500, false⟩] }
    let s := { s with trk := { s.trk with patterns := s.trk.patterns.set 0 1 } }
    let t := after (.creationRequest 0) s
    t.outcome? 100 0 = some .skipped ∧ t.trk.patterns.get 0 = 0 := by decide

/-- A rate of 333,333 counts per second overflows on the fourth microsecond (R104). -/
theorem test_pace : paceWait 0 333333 = 4 ∧ paceWait 0 1000000 = 1 ∧ paceWait 999999 1 = 1 := by decide

/-! ### The statements' hypotheses are met

One theorem a statement, named after it; each says that a state and operands meet the hypotheses of each of its clauses. -/

/-- CMD takes any frame in a state that can take, is out of hold, and has an empty reply cache. -/
theorem takes_of {s : State} (h : CanTake s) (hh : s.lnk.hold = false) (hc : s.lnk.cache = none) (k q : Byte) (p : List Byte) :
    Takes s k q p := ⟨h, hh, by unfold Lnk.duplicateOf; rw [hc]; rfl⟩

/-- CMD takes any frame in these states. -/
theorem taken_onLine (l : LineState) (k q : Byte) (p : List Byte) : Takes (onLine l) k q p := by
  cases l <;> exact takes_of (by decide) rfl rfl k q p

theorem taken_reset (k q : Byte) (p : List Byte) : Takes State.reset k q p := takes_of (by decide) rfl rfl k q p

theorem test_witness_StepRunsTheFrontCommand :
    { State.reset with pending := [.advanceEnd] }.pending = .advanceEnd :: [] ∧ State.reset.pending = [] := by
  and_intros <;> decide

theorem test_witness_HeldAndRepeatedFrames :
    (frameOfRow (.start 1 []) = some (0x10, 1, []) ∧ CanTake heldState ∧ heldState.lnk.hold = true)
      ∧ CanTake (onLnk State.reset fun l => { l with cache := some ⟨1, frameCrc 0x10 1 [], [0x10, 0]⟩ }) := by
  and_intros <;> decide

theorem test_witness_InadmissibleLengthsAreAnsweredBadLength :
    frameOfRow (.start 1 [0]) = some (Kind.start.code, 1, [0]) ∧ Kind.start.admits 1 = false
      ∧ Takes State.reset Kind.start.code 1 [0] := ⟨rfl, rfl, taken_reset ..⟩

theorem test_witness_BadKindIsAnsweredBadKind :
    (Instr.badKind 0x00 1 []).wellFormed = true ∧ (Instr.badKind 0xFF 1 []).wellFormed = true ∧ Takes State.reset 0xFF 1 [] :=
  ⟨by decide, by decide, taken_reset ..⟩

/-- CMD closed, with these frames waiting. -/
def closed (s : State) (n : Nat) : State :=
  { onLnk s (fun l => { l with received := List.replicate n (goodFrame 0x10 1 []) }) with cmd := .closed }

set_option maxRecDepth 4000 in
theorem test_witness_FramesWaitInTheReceiveQueue :
    (Settled (closed State.reset 3) ∧ (closed State.reset 3).lnk.received.length < 4 ∧ (closed State.reset 3).cmd ≠ .idle)
      ∧ (Settled (closed State.reset 4) ∧ (closed State.reset 4).lnk.received.length = 4)
      ∧ (Settled (closed heldState 4) ∧ (closed heldState 4).lnk.hold = true)
      ∧ (let s := onLnk State.reset fun l => { l with
            replies := List.replicate 4 ⟨1, [0x10, 0], .none⟩, sending := some ⟨0x80, 0, [], .none⟩ };
          Settled s ∧ s.cmd = .idle ∧ 4 ≤ s.lnk.replies.length)
      ∧ (let s := onLnk State.reset fun l => { l with received := List.replicate 4 (goodFrame 0x10 1 []) };
          s.lnk.received = goodFrame 0x10 1 [] :: List.replicate 3 (goodFrame 0x10 1 []) ∧ s.cmd = .idle ∧ s.lnk.replies.length < 4)
      ∧ (frameOfRow (.start 1 []) = some (0x10, 1, []) ∧ CanTake State.reset) := by
  and_intros <;> decide

theorem test_witness_IdentifyReplies : Takes State.reset 0x01 1 [] := taken_reset ..

theorem test_witness_SetLinkNamesTheRate :
    Takes State.reset 0x02 1 [byteOf (3 : RateCode).val] ∧ Takes State.reset 0x02 1 [4] ∧ 3 < (4 : Byte).toNat :=
  ⟨taken_reset .., taken_reset .., by decide⟩

theorem test_witness_LinkResumeClearsHold : CanTake heldState ∧ CanTake State.reset := by
  and_intros <;> decide

theorem test_witness_GetStatusReplies : Takes State.reset 0x04 1 [] := taken_reset ..

theorem test_witness_GetCountersReadsAndClears :
    Takes State.reset 0x05 1 [6, 0, 0] ∧ 5 < (6 : Byte).toNat ∧ Takes State.reset 0x05 1 [0, 3, 0] ∧ Takes State.reset 0x05 1 [2, 7, 1] :=
  ⟨taken_reset .., by decide, taken_reset .., taken_reset ..⟩

/-- A sent-unacknowledged entry of this number, and a pending one. -/
def sentEntry (n : BitVec 16) : ReportEntry := ⟨n, 0, 0, .fault (.trackLost 0 65) 1 0, true, true⟩

/-- The reset state with two sent reports. -/
def reported : State := { State.reset with rpt := { Rpt.reset with queue := [sentEntry 0, sentEntry 1], nextNumber := 2, window := 2 } }

theorem test_witness_ReportAckReleasesReports :
    (reported.rpt.queue = [sentEntry 0] ++ sentEntry 1 :: [] ∧ (sentEntry 1).sent = true
        ∧ (∀ x ∈ [sentEntry 0], x.number ≠ (sentEntry 1).number) ∧ (sentEntry 1).number = (0 : Byte) ++ (1 : Byte)
        ∧ Takes reported 0x06 1 [1, 0, byteOf 32])
      ∧ (State.reset.rpt.lastAcknowledged = (0xFF : Byte) ++ (0xFF : Byte) ∧ Takes State.reset 0x06 1 [0xFF, 0xFF, 32])
      ∧ (Takes State.reset 0x06 1 [0xFF, 0xFF, 33] ∧ 32 < (33 : Byte).toNat)
      ∧ (Takes State.reset 0x06 1 [0, 0, 8] ∧ State.reset.rpt.lastAcknowledged ≠ (0 : Byte) ++ (0 : Byte)) :=
  ⟨⟨rfl, rfl, by decide, by decide, takes_of (by decide) rfl rfl _ _ _⟩, ⟨by decide, taken_reset ..⟩,
    ⟨taken_reset .., by decide⟩, taken_reset .., by decide⟩

theorem test_witness_ReplayReturnsEntriesToPending : Takes reported 0x07 1 [] := takes_of (by decide) rfl rfl _ _ _

/-- A configuration with a lane enabled and no station. -/
def laneAlone (n : LaneId) : Configuration :=
  { defaultConfiguration with lanes := defaultConfiguration.lanes.set n { defaultLane with enabled := true } }

theorem test_witness_StartAndResumeEnterRun :
    (Takes (withActive State.reset referenceLine) 0x10 1 []
        ∧ (∃ n, (referenceLine.lanes.get n).enabled = true)
        ∧ ∀ n, (referenceLine.lanes.get n).enabled = true →
            ∃ st, (referenceLine.stations.get st).kind ≠ .off ∧ (referenceLine.stations.get st).lane = n)
      ∧ (Takes (onLine .run) 0x10 1 [] ∧ (onLine .run).lcu.line ≠ .setup)
      ∧ (Takes State.reset 0x10 1 [] ∧ ∀ n, (State.reset.lcu.active.lanes.get n).enabled = false)
      ∧ (Takes (withActive State.reset (laneAlone 3)) 0x10 1 [] ∧ ((laneAlone 3).lanes.get 3).enabled = true
        ∧ (∀ st, ((laneAlone 3).stations.get st).kind = .off ∨ ((laneAlone 3).stations.get st).lane ≠ 3)
        ∧ ∀ m, m < 3 → ¬ ((laneAlone 3).lanes.get m).enabled = true)
      ∧ (Takes (onLine .halted) 0x14 1 [] ∧ (onLine .halted).lcu.line = .halted)
      ∧ (Takes State.reset 0x14 1 [] ∧ State.reset.lcu.line ≠ .halted) :=
  ⟨⟨takes_of (by decide) rfl rfl _ _ _, by decide, by decide⟩, ⟨taken_onLine .., by decide⟩, ⟨taken_reset .., by decide⟩,
    ⟨takes_of (by decide) rfl rfl _ _ _, by decide, by decide, by decide⟩, ⟨taken_onLine .., rfl⟩, taken_reset .., by decide⟩

/-- One item in flight. -/
def inFlight (l : LineState) : State := withItems l [itemOf 1 .none [(0, .fired), (1, .wait)]]

theorem taken_inFlight (l : LineState) (k q : Byte) (p : List Byte) : Takes (inFlight l) k q p := by
  cases l <;> exact takes_of (by decide) rfl rfl k q p

theorem test_witness_StopByLineState :
    (Takes (inFlight .run) 0x11 1 [] ∧ (inFlight .run).trk.table ≠ [])
      ∧ (Takes (onLine .run) 0x11 1 [] ∧ (onLine .run).trk.table = [])
      ∧ Takes (onLine .halted) 0x11 1 [] ∧ Takes (onLine .draining) 0x11 1 [] ∧ Takes (onLine .setup) 0x11 1 [] :=
  ⟨⟨taken_inFlight .., by decide⟩, ⟨taken_onLine .., rfl⟩, taken_onLine .., taken_onLine .., taken_onLine ..⟩

theorem test_witness_HaltAndAbortEmptyTheTable :
    TableInv (inFlight .run) ∧ OutcomeListInv (inFlight .run) ∧ Takes (inFlight .run) 0x12 1 [] ∧ Takes (inFlight .draining) 0x12 1 [] ∧ Takes (onLine .setup) 0x12 1 []
      ∧ Takes (inFlight .run) 0x13 1 [] ∧ Takes (onLine .halted) 0x13 1 [] ∧ Takes State.reset 0x13 1 [] :=
  ⟨by decide, by decide, taken_inFlight .., taken_inFlight .., taken_onLine .., taken_inFlight .., taken_onLine .., taken_reset ..⟩

theorem test_witness_PurgeRemovesItsScope :
    (TableInv (inFlight .draining) ∧ OutcomeListInv (inFlight .draining) ∧ Takes (inFlight .draining) 0x15 1 [0xFF])
      ∧ (Takes (inFlight .run) 0x15 1 [byteOf (3 : LaneId).val])
      ∧ (Takes (inFlight .run) 0x15 1 [4] ∧ 3 < (4 : Byte).toNat ∧ (4 : Byte) ≠ 0xFF)
      ∧ (Takes State.reset 0x15 1 [3] ∧ (3 : Byte).toNat ≤ 3) :=
  ⟨⟨by decide, by decide, taken_inFlight ..⟩, taken_inFlight .., ⟨taken_inFlight .., by decide, by decide⟩, taken_reset .., by decide⟩

/-- An item with an entry in each kind of outcome. -/
def manyOutcomes : Item := itemOf 1 .none [(0, .wait), (1, .armed), (2, .active), (3, .fired)]

theorem test_witness_PurgeEntryByOutcome :
    TableInv (withItems .run [manyOutcomes]) ∧ manyOutcomes ∈ (withItems .run [manyOutcomes]).trk.table
      ∧ (∀ e ∈ manyOutcomes.entries, ∀ f ∈ manyOutcomes.entries, f.station = e.station → f = e)
      ∧ manyOutcomes.entries.map (·.outcome) = [.wait, .armed, .active, .fired] := by
  and_intros <;> decide

theorem test_witness_ResetPartClosesTheCommandUnit : Takes State.reset 0x16 1 [] := taken_reset ..

theorem test_witness_SetCommandsStageObjects :
    (motionBytes defaultMotion).length = 10 ∧ (laneBytes defaultLane).length = 15 ∧ (stationBytes (defaultStation 7)).length = 19
      ∧ (outputBytes defaultOutput).length = 7 ∧ readMotion (List.replicate 10 3) 0 = none
      ∧ Takes State.reset 0x18 1 (motionBytes defaultMotion) ∧ Takes State.reset 0x19 1 (4 :: laneBytes defaultLane)
      ∧ Takes State.reset 0x1A 1 (7 :: stationBytes (defaultStation 7)) ∧ Takes State.reset 0x1B 1 (8 :: outputBytes defaultOutput)
      ∧ Takes State.reset 0x1C 1 [0xFF, 0xFF] :=
  ⟨by decide, by decide, by decide, by decide, by decide, taken_reset .., taken_reset .., taken_reset .., taken_reset ..,
    taken_reset ..⟩

theorem test_witness_ObjectBytesSpellTheObjects :
    defaultMotion.InRange ∧ defaultLane.InRange ∧ (defaultStation 7).InRange ∧ defaultOutput.InRange
      ∧ readMotion (motionBytes defaultMotion) 0 = some defaultMotion ∧ readOutput (outputBytes defaultOutput) 0 = some defaultOutput
      ∧ (motionBytes defaultMotion).length = 10 ∧ (laneBytes defaultLane).length = 15
      ∧ (stationBytes (defaultStation 7)).length = 19 ∧ (outputBytes defaultOutput).length = 7 := by
  and_intros <;> decide

theorem test_witness_ReadConfigAndRevert :
    Takes State.reset 0x1E 1 [0, 0, 0] ∧ Takes State.reset 0x1E 1 [1, 1, byteOf (3 : LaneId).val]
      ∧ Takes State.reset 0x1E 1 [0, 2, byteOf (7 : StationId).val] ∧ Takes State.reset 0x1E 1 [1, 3, byteOf (7 : OutputId).val]
      ∧ Takes State.reset 0x1E 1 [0, 4, 0] ∧ Takes State.reset 0x1E 1 [2, 0, 0] ∧ 1 < (2 : Byte).toNat
      ∧ Takes State.reset 0x1D 1 [] :=
  ⟨taken_reset .., taken_reset .., taken_reset .., taken_reset .., taken_reset .., taken_reset .., by decide, taken_reset ..⟩

/-- The reset state with another staged copy. -/
def withStaged (s : State) (c : Configuration) : State := { s with lcu := { s.lcu with staged := c } }

/-- The default configuration with another source and pace rate. -/
def paced (x : Source) (rate : Nat) : Configuration :=
  { defaultConfiguration with motion := { defaultMotion with source := x, paceRate := rate } }

theorem test_witness_ApplyJudgesTheStagedCopy :
    Takes (withStaged State.reset (paced .pace 0)) 0x1F 1 []
      ∧ applyCheck (withStaged State.reset (paced .pace 0)) = some ⟨.paceRange, .motion, 0⟩ :=
  ⟨takes_of (by decide) rfl rfl _ _ _, by decide⟩

/-- Of three violations the first in object order, and within an object, is reported: the lane's before the station's two (R145). -/
theorem test_apply_first_violation :
    let c := { defaultConfiguration with
      lanes := defaultConfiguration.lanes.set 3 { defaultLane with minLength := 1 }
      stations := defaultConfiguration.stations.set 0 { defaultStation 0 with kind := .actuate, lead := 2000 } }
    applyCheck (withStaged State.reset c) = some ⟨.minInLeading, .lane, 3⟩
      ∧ applyCheck (withStaged State.reset { c with lanes := defaultConfiguration.lanes })
        = some ⟨.stationLaneDisabled, .station, 0⟩ := by decide

/-- A line in RUN whose output 4 is disabled by the staged copy while its pulse runs. -/
def disabling : State :=
  let s := withStaged (referenceRun 0 [itemOf 1 (.fixed 7) [(1, .active)]])
    { referenceLine with outputs := referenceLine.outputs.set 4 { defaultOutput with overlap := .merge, recovery := 15000, maxOn := 200 } }
  { s with out := s.out.set 4 { Output.reset with state := .active, level := true, pulse := some ⟨some 9, none, [(1, 1)]⟩ } }

/-- An APPLY that disables an ACTIVE output truncates its pulse, and the item it served retires FIRED (R90). -/
theorem test_apply_disables :
    let t := after (.apply 1 []) disabling
    t.trk.table = [] ∧ (t.out.get 4).truncated = 1 ∧ (t.trk.stations.get 1).fired = 1 ∧ (t.out.get 4).state = .recovery := by decide

theorem test_witness_ApplyMakesTheStagedCopyActive :
    (Takes (withStaged State.reset (paced .pace 1)) 0x1F 1 [] ∧ applyCheck (withStaged State.reset (paced .pace 1)) = none)
      ∧ (Takes (withActive State.reset (paced .pace 1)) 0x1F 1 [] ∧ applyCheck (withActive State.reset (paced .pace 1)) = none)
      ∧ (Takes disabling 0x1F 1 [] ∧ applyCheck disabling = none) :=
  ⟨⟨takes_of (by decide) rfl rfl _ _ _, by decide⟩, ⟨takes_of (by decide) rfl rfl _ _ _, by decide⟩,
    takes_of (by decide) rfl rfl _ _ _, by decide⟩

theorem test_witness_VerdictBegins :
    Takes State.reset 0x20 1 (pairBytes [(1, 7)]) ∧ Takes State.reset 0x20 1 (pairBytes (List.replicate 32 (1, 7)))
      ∧ (List.replicate 32 ((1 : Tag), (7 : Byte))).length ≤ 32 := ⟨taken_reset .., taken_reset .., by decide⟩

/-- VERDICT at its last pair, over items in each verdict state. -/
def judging (t : Tag) (b : Byte) (left : List (Tag × Byte)) (discard : Bool) : State :=
  { withItems .run [itemOf 1 .none [(1, .wait)], itemOf 2 (.opened 7) [(1, .wait)], itemOf 3 (.fixed 7) [(1, .armed)],
      itemOf 4 (.defaulted 0) [(1, .armed)]] with
    cmd := .judging ⟨0x20, 1, 0, discard⟩ ((t, b) :: left) [] }

theorem test_witness_VerdictPairFollowsItsRule :
    (Settled (judging 1 7 [(2, 7)] false) ∧ TableInv (judging 1 7 [(2, 7)] false))
      ∧ (Settled (judging 1 7 [] true) ∧ TableInv (judging 1 7 [] true))
      ∧ (let k := (judging 1 7 [] false).trk; (∃ k', PairRule k 1 16 .badArgument k') ∧ (∃ k', PairRule k 0 15 .badArgument k') ∧ (∃ k', PairRule k 5 (byteOf (7 : VerdictClass).val) .notFound k')
        ∧ (∃ k', PairRule k 1 (byteOf (7 : VerdictClass).val) .accepted k') ∧ (∃ k', PairRule k 2 (byteOf (7 : VerdictClass).val) .already k')
        ∧ (∃ k', PairRule k 2 (byteOf (3 : VerdictClass).val) .amended k') ∧ (∃ k', PairRule k 3 (byteOf (3 : VerdictClass).val) .conflict k')
        ∧ (∃ k', PairRule k 4 (byteOf (0 : VerdictClass).val) .tooLate k')) :=
  ⟨by decide, by decide, ⟨_, .badClass 16 (by decide)⟩, ⟨_, .badTag 15 rfl⟩, ⟨_, .notFound 7 (by decide) (by decide)⟩,
    ⟨_, .accepted 7 (by decide) (itemOf 1 .none [(1, .wait)]) (by decide) rfl rfl⟩,
    ⟨_, .already 7 (by decide) (itemOf 2 (.opened 7) [(1, .wait)]) (by decide) rfl (.inl rfl)⟩,
    ⟨_, .amended 3 7 (by decide) (itemOf 2 (.opened 7) [(1, .wait)]) (by decide) rfl rfl (by decide)⟩,
    ⟨_, .conflict 3 7 (by decide) (itemOf 3 (.fixed 7) [(1, .armed)]) (by decide) rfl rfl (by decide)⟩,
    ⟨_, .tooLate 0 0 (by decide) (itemOf 4 (.defaulted 0) [(1, .armed)]) (by decide) rfl rfl⟩⟩

theorem test_witness_ReadItemReturnsTheRecord :
    (Takes (inFlight .run) 0x21 1 [1, 0] ∧ TableInv (inFlight .run)
        ∧ ((inFlight .run).trk.table[0]?).map (·.tag) = some ((0 : Byte) ++ (1 : Byte)))
      ∧ (Takes (inFlight .run) 0x21 1 [2, 0] ∧ ∀ i ∈ (inFlight .run).trk.table, i.tag ≠ (0 : Byte) ++ (2 : Byte))
      ∧ Takes State.reset 0x21 1 [0, 0] :=
  ⟨⟨taken_inFlight .., by decide, by decide⟩, ⟨taken_inFlight .., by decide⟩, taken_reset ..⟩

theorem test_witness_ListItemsReturnsSummaries :
    Takes (inFlight .run) 0x22 1 [0xFF, 127] ∧ Takes (inFlight .run) 0x22 1 [byteOf (3 : LaneId).val, 0]
      ∧ (127 : Byte).toNat ≤ 127 ∧ Takes (inFlight .run) 0x22 1 [4, 0] ∧ Takes (inFlight .run) 0x22 1 [0, 128] ∧ 127 < (128 : Byte).toNat :=
  ⟨taken_inFlight .., taken_inFlight .., by decide, taken_inFlight .., taken_inFlight .., by decide⟩

/-- The default configuration with every output enabled, and an output in a state. -/
def outputIn (n : OutputId) (o : Output) : State :=
  let s := withActive State.reset { defaultConfiguration with outputs := Oct.same { defaultOutput with enabled := true } }
  { s with out := s.out.set n o }

/-- An output in each state. -/
def forcedOutput : Output := { Output.reset with state := .forced, level := true }
def activeOutput : Output := { Output.reset with state := .active, level := true, pulse := some ⟨none, some 40, []⟩, maxOn := some 50 }
def recoveringOutput : Output := { Output.reset with state := .recovery, recovery := some 30 }

theorem taken_outputIn (n : OutputId) (o : Output) (k q : Byte) (p : List Byte) : Takes (outputIn n o) k q p :=
  have h : CanTake (outputIn n o) := ⟨⟨rfl, fun _ => ⟨rfl, rfl, rfl⟩, rfl⟩, rfl, rfl, Nat.succ_pos 3⟩
  takes_of h rfl rfl k q p

theorem test_witness_ForceOutputActsByState :
    (MayForce (outputIn 7 Output.reset) 7 ∧ Takes (outputIn 7 Output.reset) 0x28 1 [byteOf (7 : OutputId).val, 1, 0, 0])
      ∧ (MayForce (outputIn 7 forcedOutput) 7 ∧ Takes (outputIn 7 forcedOutput) 0x28 1 [byteOf (7 : OutputId).val, 0, 0, 0])
      ∧ (MayForce (outputIn 7 activeOutput) 7 ∧ Takes (outputIn 7 activeOutput) 0x28 1 [byteOf (7 : OutputId).val, 2, 1, 0])
      ∧ (MayForce (outputIn 7 recoveringOutput) 7 ∧ Takes (outputIn 7 recoveringOutput) 0x28 1 [byteOf (7 : OutputId).val, 2, 1, 0])
      ∧ (frameOfRow (.forceOutputOn 1 8 [0, 0]) = some (0x28, 1, [8, 1, 0, 0]) ∧ Takes State.reset 0x28 1 [8, 1, 0, 0])
      ∧ (frameOfRow (.badKind 0x28 1 [7, 3, 0, 0]) = some (0x28, 1, [7, 3, 0, 0]) ∧ Takes State.reset 0x28 1 [7, 3, 0, 0])
      ∧ (frameOfRow (.forceOutputPulse 1 7 [0, 0]) = some (0x28, 1, [7, 2, 0, 0]) ∧ Takes State.reset 0x28 1 [7, 2, 0, 0])
      ∧ (¬ MayForce State.reset 7 ∧ Takes State.reset 0x28 1 [7, 2, 1, 0]) :=
  ⟨⟨by decide, taken_outputIn ..⟩, ⟨by decide, taken_outputIn ..⟩, ⟨by decide, taken_outputIn ..⟩, ⟨by decide, taken_outputIn ..⟩,
    ⟨rfl, taken_reset ..⟩, ⟨rfl, taken_reset ..⟩, ⟨rfl, taken_reset ..⟩, by decide, taken_reset ..⟩

/-- ADVANCE in execution. -/
def advancing (s : State) (remaining made : Nat) (discard : Bool) : State :=
  { s with cmd := .advancing ⟨0x29, 1, 0, discard⟩ s.now remaining made made }

theorem test_witness_AdvanceBeginsAndEnds :
    (Takes (referenceRun 0 []) 0x29 1 [1, 0] ∧ (referenceRun 0 []).lcu.active.motion.source = .hostStep)
      ∧ Takes State.reset 0x29 1 [0, 0] ∧ (Takes State.reset 0x29 1 [1, 0] ∧ State.reset.lcu.active.motion.source ≠ .hostStep)
      ∧ Settled (advancing State.reset 0 1 false) ∧ Settled (advancing State.reset 0 1 true)
      ∧ Settled (advancing (closed State.reset 4) 0 1 false) :=
  ⟨⟨takes_of (by decide) rfl rfl _ _ _, rfl⟩, taken_reset .., ⟨taken_reset .., by decide⟩, by decide, by decide, by decide⟩

set_option maxRecDepth 4000 in
/-- The ADVANCE ends, and the VERDICT that waited is taken: its execution begins behind the reply in transmission (R157; 12.4). -/
theorem test_waiting_frame_taken :
    let s := onLnk (advancing (referenceRun 30000 []) 0 1000 false) fun l => { l with received := [goodFrame 0x20 32 [2, 0, 7]] }
    let t := after .advanceEnd s
    t.lnk.sending.map (·.seq) = some 1 ∧ t.lnk.received = []
      ∧ t.cmd = .judging ⟨0x20, 32, frameCrc 0x20 32 [2, 0, 7], false⟩ [(2, 7)] [] := by decide

/-- A reply leaves a full reply queue, and CMD takes one waiting frame, which fills it again (R157). -/
theorem test_reply_departs_frame_taken :
    let s := onLnk State.reset fun l => { l with
      replies := List.replicate 4 ⟨1, [0x10, 0], .none⟩, sending := some ⟨0x80, 0, [], .none⟩
      received := [goodFrame 0x07 8 [], goodFrame 0x07 9 []] }
    let t := after .frameTransmitEnd s
    t.lnk.replies.map (·.seq) = [1, 1, 1, 8] ∧ t.lnk.received.map (·.seq) = [9] := by decide

/-- The third count of an ADVANCE taken at 0 us falls at 1 us, whether or not an expiry has brought the time base there (R106, 12.3);
the fourth falls half a microsecond later. -/
theorem test_advance_count_time :
    let s (now made : Nat) : State := { referenceRun 0 [] with now := now, cmd := .advancing ⟨0x29, 1, 0, false⟩ 0 9 made made }
    (after (.advanceCount .standard) (s 0 2)).now = 1 ∧ (after (.advanceCount .standard) (s 1 2)).now = 1
      ∧ (after (.advanceCount .standard) (s 1 3)).now = 1 ∧ (after (.advanceCount .standard) (s 1 4)).now = 2 := by decide

/-- A state with MOT changed. -/
def onMot (s : State) (f : Mot → Mot) : State := { s with mot := f s.mot }

theorem test_witness_AdvanceCountRepaysOrTicks :
    (Settled (advancing (onMot State.reset fun m => { m with debt := 1 }) 1 2 false))
      ∧ Settled (advancing State.reset 1 2 false) ∧ State.reset.mot.debt = 0 ∧ State.reset.mot.position + 1 < 2 ^ 48 := by
  and_intros <;> decide

theorem test_witness_EncoderTransitionsMakeCounts :
    (Quiet State.reset ∧ State.reset.lcu.active.motion.source = .encoder ∧ State.reset.mot.reference = (false, false)
        ∧ ((false, false), (true, false), true) ∈ encoderTable ∧ ((false, false), (false, true), false) ∈ encoderTable
        ∧ State.reset.mot.debt < State.reset.lcu.active.motion.reverseLimit)
      ∧ Quiet (onMot State.reset fun m => { m with debt := 1 })
      ∧ (let s := onMot (inFlight .run) fun m => { m with debt := 64 };
          Quiet s ∧ s.lcu.active.motion.source = .encoder ∧ s.mot.reference = (false, false)
            ∧ s.lcu.active.motion.reverseLimit ≤ s.mot.debt)
      ∧ (Quiet (referenceRun 0 []) ∧ (referenceRun 0 []).lcu.active.motion.source ≠ .encoder)
      ∧ State.reset.mot.reference = (!true, !true) := by
  and_intros <;> decide

theorem test_witness_ReverseCountAtTheLimit :
    ((onMot State.reset fun m => { m with debt := 64 }).mot.debt = State.reset.lcu.active.motion.reverseLimit)
      ∧ State.reset.lcu.active.motion.reverseLimit < (onMot State.reset fun m => { m with debt := 65 }).mot.debt
      ∧ (let s := onMot (inFlight .run) fun m => { m with debt := 64 };
          s.lcu.line = .run ∧ s.mot.debt = s.lcu.active.motion.reverseLimit ∧ TableInv s ∧ OutcomeListInv s) := by
  and_intros <;> decide

theorem test_witness_PaceCountOverflows :
    let s := withActive State.reset (paced .pace 333333)
    (Quiet s ∧ s.lcu.active.motion.source = .pace ∧ s.mot.debt = 0 ∧ s.mot.owedCounts = 0
        ∧ s.mot.accumulator + (4 - 1) * s.lcu.active.motion.paceRate < 1000000
        ∧ 1000000 ≤ s.mot.accumulator + 4 * s.lcu.active.motion.paceRate)
      ∧ Quiet (onMot s fun m => { m with debt := 1 })
      ∧ (let u := onMot s fun m => { m with owedCounts := 1 };
          Quiet u ∧ u.lcu.active.motion.source = .pace ∧ u.lcu.active.motion.paceRate ≠ 0 ∧ 0 < u.mot.owedCounts)
      ∧ (Quiet State.reset ∧ State.reset.lcu.active.motion.source ≠ .pace) := by
  dsimp only
  and_intros <;> decide

/-- At 300,000 the sum of microsecond 4 is 1,200,000 (5.9, the pace accumulator). An APPLY of another rate taken in that microsecond,
before the count, keeps 200,000 and leaves the count to be made; PACE_COUNT makes it, at microsecond 4 (R101, R104). -/
theorem test_rate_change_keeps_count :
    let s := withStaged (withActive State.reset (paced .pace 300000)) (paced .pace 400000)
    let s := { onMot s (fun m => { m with accumulator := 900000, paceTime := 3 }) with now := 4 }
    let t := after (.apply 1 []) s
    let u := after (.paceCount .standard) t
    (t.mot.accumulator = 200000 ∧ t.mot.position = 0)
      ∧ (u.mot.accumulator = 200000 ∧ u.mot.position = 1 ∧ u.now = 4)
      ∧ (after (.paceCount .standard) u).now = 6 := by decide

theorem test_witness_StandstillExpiryStopsMotion :
    Quiet State.reset ∧ State.reset.mot.standstill = none
      ∧ Quiet (onMot State.reset fun m => { m with standstill := some 500000, moving := true }) := by
  and_intros <;> decide

theorem test_witness_TickWithNothingDueChangesMotionAlone :
    NothingDue (referenceRun 11298 [itemOf 1 .none [(0, .wait), (1, .wait)]]) ∧ NothingDue State.reset
      ∧ (let o : TickOrder := ⟨[3, 1], [0, 2, 4, 5, 6, 7], Oct.same 1⟩; (o.before ++ o.after).Perm allEight)
      ∧ (let s := referenceRun 11300 [itemOf 1 .none [(0, .wait), (1, .wait)], itemOf 2 .none [(0, .wait)]]
        TableInv s ∧ OutcomeListInv s ∧ s.commitsWhere (fun c => c == s.mot.position) = [(1, 0), (2, 0)])
      ∧ (let q (p : Nat) : Request := ⟨1, 1, p, .ticks (p + 400)⟩
        let s := referenceRun 6 []
        let u := { s with out := s.out.set 4 { Output.reset with waiting := [q 6, q 6, q 7] } }
        (u.out.get 4).waiting = [] ++ [q 6, q 6] ++ [q 7] ∧ ∀ r ∈ [q 6, q 6], r.start = u.mot.position) := by
  and_intros <;> decide

set_option maxRecDepth 4000 in
theorem test_witness_CharactersAdvanceTheReceiver :
    Quiet State.reset ∧ State.reset.lnk.receiver = .hunt
      ∧ (Quiet (onLnk State.reset fun l => { l with broken := true }))
      ∧ (Quiet (onLnk State.reset fun l => { l with receiver := .length }) ∧ 2 ≤ (2 : Byte).toNat ∧ (250 : Byte).toNat ≤ 250)
      ∧ (Quiet (onLnk State.reset fun l => { l with receiver := .body 2 [1] }))
      ∧ (Quiet (onLnk State.reset fun l => { l with receiver := .crc 2 [1, 1] none }))
      ∧ (let q := frameCrc 0x01 1 []; Quiet (onLnk State.reset fun l => { l with receiver := .crc (byteOf 2) [0x01, 1] (some (q.setWidth 8)) })
        ∧ ((q >>> 8).setWidth 8 : Byte) ++ (q.setWidth 8 : Byte) = q) := by
  and_intros <;> decide

set_option maxRecDepth 4000 in
theorem test_witness_FrameErrorsEnterHold :
    (Quiet (onLnk State.reset fun l => { l with receiver := .length }) ∧ (1 : Byte).toNat < 2 ∧ 250 < (251 : Byte).toNat)
      ∧ (Quiet (onLnk State.reset fun l => { l with receiver := .crc 2 [1, 1] (some 0) })
        ∧ crcOf [2, 1, 1] ≠ (0 : Byte) ++ (0 : Byte))
      ∧ (Quiet (onLnk heldState fun l => { l with receiver := .length }))
      ∧ (Quiet State.reset ∧ State.reset.lnk.receiver = .hunt)
      ∧ Quiet (onLnk State.reset fun l => { l with receiver := .length, broken := true }) := by
  and_intros <;> decide

theorem test_witness_CharactersSpellTheFrame :
    frameOfRow (.identify 1 []) = some (0x01, 1, []) ∧ Quiet State.reset ∧ State.reset.lnk.receiver = .hunt
      ∧ State.reset.lnk.broken = false := by
  and_intros <;> decide

theorem test_witness_BreakResetsTheLink :
    State.reset.rpt.latchDue = false ∧ ¬ State.reset.cmd = .closed
      ∧ (let s := onLnk (closed State.reset 0) fun l => { l with replies := [⟨1, [0x16, 0], .partReset⟩], sending := some ⟨0x80, 0, [], .none⟩ }; s.rpt.latchDue = false ∧ s.cmd = .closed ∧ ∃ r ∈ s.lnk.replies, r.effect = .partReset)
      ∧ Quiet State.reset := by
  and_intros <;> decide

/-- A transmission under way, with what waits behind it. -/
def sendingWith (e : TxEffect) (n : Option Notice) (r : List Reply) (s : State) : State :=
  onLnk s fun l => { l with sending := some ⟨0x80, 1, [], e⟩, notice := n, replies := r }

/-- One report sent, one pending. -/
def halfSent : State :=
  { reported with rpt := { reported.rpt with queue := [sentEntry 0, { sentEntry 1 with sent := false }] } }

theorem test_witness_TransmitEndBeginsTheNextFrame :
    Settled (sendingWith (.setRate 3) (some ⟨.crc, none⟩) [] State.reset)
      ∧ (Settled (sendingWith .none none [⟨1, [], .none⟩] State.reset))
      ∧ (Settled (onLnk (sendingWith .none none (List.replicate 4 ⟨1, [], .none⟩) State.reset) fun l => { l with
          received := [goodFrame 0x07 8 []] }))
      ∧ (let s := sendingWith .none none [] halfSent; Settled s ∧ s.rpt.queue = [sentEntry 0] ++ { sentEntry 1 with sent := false } :: []
          ∧ (s.rpt.queue.filter fun x => x.sent).length < s.rpt.window)
      ∧ (Settled (sendingWith .none none [] State.reset) ∧ ∀ x ∈ State.reset.rpt.queue, x.sent = true)
      ∧ Settled (sendingWith .partReset none [] State.reset) := by
  and_intros <;> decide

/-- The reference line with lane 0 in a state. -/
def laneIn (l : Lane) : State := let s := referenceRun 10000 []; { s with det := s.det.set 0 l }

theorem test_witness_DetectorSamplesMakeCandidates :
    (Quiet State.reset ∧ (State.reset.lcu.active.lanes.get 0).enabled = false)
      ∧ (Quiet (laneIn .reset) ∧ ((laneIn .reset).lcu.active.lanes.get 0).enabled = true
        ∧ ((laneIn .reset).lcu.active.lanes.get 0).debounce ≠ 0)
      ∧ (Quiet (laneIn { Lane.reset with candidate := some ⟨true, 9999, 200⟩ }))
      ∧ (Quiet (withActive State.reset (laneAlone 0 )) ∧ Quiet (withActive State.reset { laneAlone 0 with
          lanes := (laneAlone 0).lanes.set 0 { defaultLane with enabled := true, debounce := 0 } })) := by
  and_intros <;> decide

/-- A lane with a candidate stamped 10,000. -/
def edgeIn (st : DetectorState) (p last : Option Nat) : Lane := ⟨st, some ⟨true, 10000, 200⟩, p, last, 0, 0, 0⟩

theorem test_witness_EdgesAndOverlongMoveTheLane :
    (Quiet (laneIn .reset) ∧ Lane.reset.candidate = none)
      ∧ (Quiet (laneIn (edgeIn .idle none (some 9701))) ∧ 10000 < 9701 + 300)
      ∧ (Quiet (laneIn (edgeIn .idle none (some 9700))) ∧ 9700 + 300 ≤ 10000)
      ∧ (Quiet (laneIn (edgeIn .present (some 9951) none)) ∧ 10000 - 9951 < 50)
      ∧ (Quiet (laneIn (edgeIn .present (some 9950) none)) ∧ 50 ≤ 10000 - 9950)
      ∧ Quiet (laneIn (edgeIn .suppressed none none)) ∧ Quiet (laneIn (edgeIn .blocked none none))
      ∧ ((laneIn (edgeIn .present (some 8000) none)).mot.position = 8000 + 2000)
      ∧ (State.reset.det.get 0).state ≠ .present := by
  and_intros <;> decide

set_option maxRecDepth 4000 in
theorem test_witness_CreationRequestMakesAnItem :
    (Quiet State.reset ∧ ∀ r ∈ State.reset.requests, r.lane ≠ 0)
      ∧ (let s := { onLine .draining with requests := [⟨1, 3, none, false⟩, ⟨0, 3, none, false⟩] }; Quiet s ∧ s.requests = [⟨1, 3, none, false⟩] ++ ⟨0, 3, none, false⟩ :: [] ∧ s.lcu.line ≠ .run)
      ∧ (128 ≤ (withItems .run (List.replicate 128 (itemOf 1 .none [(0, .wait)]))).trk.table.length)
      ∧ (let s := { referenceRun 11299 [] with requests := [⟨0, 10000, some 800, false⟩] }; Quiet s ∧ TableInv s ∧ s.trk.table.length < 128
          ∧ (s.lcu.active.stations.get 0).commitPoint 10000 = s.mot.position + 1)
      ∧ (let s := { referenceRun 11300 [] with requests := [⟨0, 10000, some 800, false⟩] }; Quiet s ∧ TableInv s ∧ s.lcu.line = .run
          ∧ s.trk.table.length < 128 ∧ (s.lcu.active.stations.get 0).commitPoint 10000 = s.mot.position) := by
  and_intros <;> decide

/-- A creation at 11,500 of an item with reference 10,000 starts S0's 40 us pulse at once, late (R14, R61, R62). -/
theorem test_creation_late_start :
    let t := after (.creationRequest 0) { referenceRun 11500 [] with requests := [⟨0, 10000, some 800, false⟩] }
    t.outcome? 100 0 = some .active ∧ (t.out.get 0).pulse = some ⟨none, some 40, [(100, 0)]⟩
      ∧ (t.rpt.queue.map (·.body)).contains (.capture 100 0 0 11500 false true) = true := by decide

theorem test_witness_CommitsDecideAndRequest :
    let s := referenceRun 0 [manyOutcomes, itemOf 2 (.opened 7) [(0, .wait), (1, .wait)]]
    s.item? 1 = some manyOutcomes ∧ (manyOutcomes.entry? 0).map (·.outcome) = some .wait
      ∧ (manyOutcomes.entry? 1).map (·.outcome) ≠ some .wait ∧ (s.lcu.active.stations.get 0).kind = .capture
      ∧ (s.lcu.active.stations.get 1).kind = .actuate ∧ (s.lcu.active.stations.get 1).actionSet.getLsbD 7 = true
      ∧ (s.lcu.active.stations.get 1).actionSet.getLsbD 0 = false
      ∧ ((s.item? 2).bind (·.entry? 1)).map (·.outcome) = some .wait := by
  dsimp only
  and_intros <;> decide

/-- A request of tag 1 at a start position. -/
def requestAt (p : Nat) : Request := ⟨1, 1, p, .ticks (p + 400)⟩

theorem test_witness_RequestsAreFiledInStartOrder :
    (8 ≤ ((outputIn 4 { Output.reset with waiting := List.replicate 8 (requestAt 5) }).out.get 4).waiting.length)
      ∧ (let s := outputIn 4 { Output.reset with waiting := [requestAt 5, requestAt 6] }; (s.out.get 4).waiting = [requestAt 5] ++ [requestAt 6] ∧ (requestAt 5).start ≤ (requestAt 5).start
          ∧ (requestAt 5).start < (requestAt 6).start ∧ s.mot.position < (requestAt 5).start)
      ∧ (requestAt 0).start ≤ (outputIn 4 Output.reset).mot.position := by
  and_intros <;> decide

theorem test_witness_StartEventsAreArbitrated :
    (State.reset.lcu.active.outputs.get 4).enabled = false
      ∧ (((outputIn 4 Output.reset).lcu.active.outputs.get 4).enabled = true ∧ ((outputIn 4 Output.reset).out.get 4).state = .idle)
      ∧ (decide ((outputIn 4 Output.reset).mot.position < 0)) = false
      ∧ ((referenceRun 0 []).lcu.active.outputs.get 4).overlap = .merge
      ∧ ((outputIn 4 activeOutput).out.get 4).pulse = some ⟨none, some 40, []⟩
      ∧ ((outputIn 4 activeOutput).lcu.active.outputs.get 4).overlap = .reject
      ∧ ((outputIn 4 recoveringOutput).out.get 4).state = .recovery ∧ ((outputIn 4 forcedOutput).out.get 4).state = .forced := by
  and_intros <;> decide

theorem test_witness_OutputTimersEndPulses :
    (Quiet (outputIn 4 activeOutput) ∧ (outputIn 4 activeOutput).lnk.received = [])
      ∧ (Quiet (outputIn 4 { activeOutput with pulse := some ⟨some 1, some 40, []⟩ })
        ∧ (some 1 : Option Nat).all (fun y => decide (y ≤ 0)) = false)
      ∧ Quiet (outputIn 4 recoveringOutput) ∧ Quiet (outputIn 4 Output.reset)
      ∧ (let s := outputIn 4 { activeOutput with pulse := some ⟨some 0, some 0, []⟩ };
          (s.out.get 4).pulse = some ⟨some s.mot.position, some s.now, []⟩)
      ∧ (some 40 : Option Nat).all (fun e => decide (e ≤ (outputIn 4 activeOutput).now)) = false := by
  and_intros <;> decide

theorem test_witness_NoticesMoveOutcomesAndRetire :
    let s := referenceRun 0 [itemOf 1 .none [(0, .armed), (1, .active)], itemOf 2 .none [(0, .armed)], itemOf 3 .none [(0, .skipped), (1, .fired)]]
    (∀ i ∈ s.trk.table, i.tag ≠ 9) ∧ (s.item? 1).isSome = true ∧ s.outcome? 1 0 = some .armed ∧ s.outcome? 1 1 = some .active
      ∧ ((s.item? 3).map fun i => i.entries.all fun e => e.outcome.isFinal) = some true
      ∧ (s.lcu.active.stations.get 0).kind = .capture ∧ (s.lcu.active.stations.get 1).kind ≠ .capture := by
  dsimp only
  and_intros <;> decide

/-- A report queue of so many entries that are no STATUS and no FAULT. -/
def queued (n : Nat) : State :=
  { State.reset with rpt := { Rpt.reset with queue := List.replicate n ⟨0, 0, 0, .itemDone manyOutcomes .completed, true, true⟩ } }

theorem test_witness_ReportsAreAdmitted :
    (queued 55).rpt.queue.length < 56 ∧ 56 ≤ (queued 56).rpt.queue.length ∧ 64 ≤ (queued 64).rpt.queue.length
      ∧ (queued 63).rpt.queue.length < 64
      ∧ (let e : ReportEntry := ⟨0, 0, 0, .fault (.trackLost 3 65) 65535 0, false, false⟩; e.body = .fault (.trackLost 3 65) 65535 0 ∧ e.onceSent = false)
      ∧ (onLine .run).liveStatus.differences (onLine .run).rpt.snapshot &&& (onLine .run).lcu.active.statusMask ≠ 0
      ∧ (∀ e ∈ (onLine .run).rpt.queue, e.body.isStatus = false)
      ∧ (passStatus (onLine .run)).rpt.latchDue = true ∧ (onLine .run).rpt.latchDue = false
      ∧ (onLnk State.reset fun l => { l with sending := some ⟨0x80, 0, [], .none⟩ }).lnk.sending.isSome = true
      ∧ ((onLnk State.reset fun l => { l with notice := some ⟨.crc, none⟩ }).lnk.notice = some ⟨.crc, none⟩ ∧ State.reset.lnk.sending = none)
      ∧ ((onLnk State.reset fun l => { l with replies := [⟨1, [], .none⟩] }).lnk.replies = ⟨1, [], .none⟩ :: []
        ∧ State.reset.lnk.notice = none)
      ∧ (halfSent.lnk.sending = none ∧ halfSent.lnk.notice = none ∧ halfSent.lnk.replies = []
        ∧ (latch halfSent).rpt.queue = [sentEntry 0] ++ { sentEntry 1 with sent := false } :: []
        ∧ ((latch halfSent).rpt.queue.filter fun x => x.sent).length < (latch halfSent).rpt.window)
      ∧ (∀ x ∈ (latch State.reset).rpt.queue, x.sent = true) := by
  and_intros <;> decide

/-- The state after reset meets every invariant, so each statement that a step keeps one is met there. -/
theorem test_witness_invariants :
    TableInv State.reset ∧ OutcomeListInv State.reset ∧ LineTableInv State.reset ∧ OpenItemsInv State.reset ∧ DebtInv State.reset ∧ OutputsInv State.reset
      ∧ ReportBoundsInv State.reset ∧ ReportOrderInv State.reset ∧ LinkQueuesInv State.reset ∧ LanesInv State.reset
      ∧ step State.reset = .next { State.reset with now := 1 } := ⟨by decide, by decide, by decide, by decide, by decide,
        by decide, by decide, by decide, by decide, by decide, rfl⟩

/-- A state of items, pulses, reports and candidates that meets every invariant too. -/
theorem test_witness_invariants_busy :
    let s := { referenceRun 9 [itemOf 1 .none [(0, .wait), (1, .armed)]] with out := (outputIn 4 activeOutput).out, rpt := reported.rpt }
    TableInv s ∧ OutcomeListInv s ∧ LineTableInv s ∧ OpenItemsInv s ∧ DebtInv s ∧ OutputsInv s ∧ ReportBoundsInv s ∧ ReportOrderInv s
      ∧ LinkQueuesInv s ∧ LanesInv s := by
  dsimp only
  and_intros <;> decide

theorem test_witness_PositionMovesByCountsAlone :
    exec .standstillExpiry State.reset = .next State.reset := by rfl

end Sys2Proof.Tests
end

/-! ## Proofs: how the tracking table evolves

`Evolves` says once what the operations of TRK and OUT can do to the tracking table and the line state. Only a creation, a line
command and a reset do anything else, so the invariants of R3, R4, R5, R8 and R23 are each read off it. -/

section

namespace Sys2Proof.Machine

open Sys2Proof

/-! ### The relation -/

/-- What no event changes of an item: its tag, and the stations of its outcome list (R5, R8). -/
def Item.form (i : Item) : Tag × List StationId := (i.tag, i.entries.map (·.station))

/-- No item of the tag has a WAIT entry for the station. -/
def NoWait (t : Tag) (st : StationId) (s : State) : Prop :=
  ∀ i ∈ s.trk.table, i.tag = t → ∀ e ∈ i.entries, e.station = st → e.outcome ≠ .wait

/-- Every item of another tag than these has an entry that is not final. -/
def OpenBeyond (X : Set Tag) (s : State) : Prop := ∀ i ∈ s.trk.table, i.tag ∉ X → i.isDone = false

/-- A change of the table in which items may leave and outcomes move on, a drain ends where its last item leaves, and only items
with a tag of `Y` can be left with every entry final. -/
structure Evolves (Y : Set Tag) (s t : State) : Prop where
  form : (t.trk.table.map Item.form).Sublist (s.trk.table.map Item.form)
  nextTag : t.trk.nextTag = s.trk.nextTag
  line : t.lcu.line =
    if s.lcu.line = .draining ∧ s.trk.table ≠ [] ∧ t.trk.table = [] then .setup else s.lcu.line
  noWait : ∀ u st, NoWait u st s → NoWait u st t
  opens : ∀ X, (s.trk.table.map (·.tag)).Nodup → OpenBeyond X s → OpenBeyond (Y ∪ X) t

theorem tags_of_forms (l : List Item) : (l.map Item.form).map Prod.fst = l.map (·.tag) := by
  rw [List.map_map]; rfl

theorem Evolves.tags {Y : Set Tag} {s t : State} (h : Evolves Y s t) :
    (t.trk.table.map (·.tag)).Sublist (s.trk.table.map (·.tag)) := by
  rw [← tags_of_forms, ← tags_of_forms]
  exact h.form.map _

theorem Evolves.empty {Y : Set Tag} {s t : State} (h : Evolves Y s t) (hs : s.trk.table = []) : t.trk.table = [] := by
  simpa [hs] using h.tags

theorem OpenBeyond.mono {X Z : Set Tag} {s : State} (h : OpenBeyond X s) (hX : X ⊆ Z) : OpenBeyond Z s :=
  fun i hi ht => h i hi fun hx => ht (hX hx)

/-- A state with the table, the next-tag counter and the line state of another. -/
theorem Evolves.of_same (Y : Set Tag) {s t : State} (ht : t.trk.table = s.trk.table) (hn : t.trk.nextTag = s.trk.nextTag)
    (hl : t.lcu.line = s.lcu.line) : Evolves Y s t where
  form := by rw [ht]
  nextTag := hn
  line := by rw [ht, hl]; simp
  noWait := by unfold NoWait; rw [ht]; exact fun _ _ h => h
  opens X _ h := by
    have h' : OpenBeyond X t := by unfold OpenBeyond; rw [ht]; exact h
    exact h'.mono Set.subset_union_right

theorem Evolves.refl (Y : Set Tag) (s : State) : Evolves Y s s := .of_same Y rfl rfl rfl

theorem Evolves.of_reports {Y : Set Tag} {s t : State} (h : KeepsBeyondReports s t) : Evolves Y s t :=
  .of_same Y (by rw [h.trk]) (by rw [h.trk]) h.line

theorem Evolves.mono {Y Z : Set Tag} {s t : State} (h : Evolves Y s t) (hY : Y ⊆ Z) : Evolves Z s t :=
  { h with opens := fun X hd ho => (h.opens X hd ho).mono (Set.union_subset_union_left X hY) }

/-- The end of a drain is the same taken in one step or in two. -/
theorem Evolves.line_trans {Y Z : Set Tag} {a b c : State} (h : Evolves Y a b) (k : Evolves Z b c) :
    c.lcu.line = if a.lcu.line = .draining ∧ a.trk.table ≠ [] ∧ c.trk.table = [] then .setup else a.lcu.line := by
  rw [k.line, h.line]
  by_cases ha : a.trk.table = []
  · simp [ha, h.empty ha]
  · by_cases hb : b.trk.table = []
    · have hc := k.empty hb
      by_cases hd : a.lcu.line = .draining <;> simp [ha, hb, hc, hd]
    · simp [ha, hb]

theorem Evolves.trans {Y : Set Tag} {a b c : State} (h : Evolves Y a b) (k : Evolves Y b c) : Evolves Y a c where
  form := k.form.trans h.form
  nextTag := k.nextTag.trans h.nextTag
  line := h.line_trans k
  noWait u st w := k.noWait u st (h.noWait u st w)
  opens X hd ho := by
    have := k.opens (Y ∪ X) (h.tags.nodup hd) (h.opens X hd ho)
    rwa [← Set.union_assoc, Set.union_self] at this

/-- A change that begins at a state with the same table, next-tag counter and line state. -/
theorem Evolves.from_same {Y : Set Tag} {s u t : State} (h : Evolves Y u t) (ht : u.trk.table = s.trk.table)
    (hn : u.trk.nextTag = s.trk.nextTag) (hl : u.lcu.line = s.lcu.line) : Evolves Y s t :=
  (Evolves.of_same Y ht hn hl).trans h

theorem Evolves.foldl {α : Type} {Y : Set Tag} (f : State → α → State) (h : ∀ s a, Evolves Y s (f s a)) (l : List α) :
    ∀ s, Evolves Y s (l.foldl f s) := by
  induction l with
  | nil => exact fun s => .refl Y s
  | cons a l ih => exact fun s => (h s a).trans (ih (f s a))

/-- A change that may leave an item with every entry final, and one that takes care of this item. -/
theorem Evolves.closing {t : Tag} {a b c : State} (h : Evolves {t} a b) (k : Evolves ∅ b c)
    (hc : (b.trk.table.map (·.tag)).Nodup → ∀ i ∈ c.trk.table, i.tag = t → i.isDone = false) : Evolves ∅ a c where
  form := k.form.trans h.form
  nextTag := k.nextTag.trans h.nextTag
  line := h.line_trans k
  noWait u st w := k.noWait u st (h.noWait u st w)
  opens X hd ho := by
    have hb := h.tags.nodup hd
    have hk := k.opens ({t} ∪ X) hb (h.opens X hd ho)
    intro i hi hX
    by_cases ht : i.tag = t
    · exact hc hb i hi ht
    · exact hk i hi (by simpa [ht] using hX)

/-! ### Items and entries -/

/-- A change of the items of a tag that keeps their form, makes no entry WAIT, and closes no item but one of a tag of `Y`. -/
theorem mapItem_evolves {Y : Set Tag} {t : Tag} {f : Item → Item} (s : State) (hf : ∀ i, (f i).form = i.form)
    (hw : ∀ i, ∀ e ∈ (f i).entries, e.outcome = .wait → ∃ d ∈ i.entries, d.station = e.station ∧ d.outcome = .wait)
    (hd : t ∉ Y → ∀ i, (f i).isDone = true → i.isDone = true) : Evolves Y s (mapItem t f s) where
  form := by
    have e : (Item.form ∘ fun i : Item => if i.tag = t then f i else i) = Item.form := by
      funext i
      by_cases h : i.tag = t <;> simp [h, hf]
    rw [mapItem_trk, List.map_map, e]
  nextTag := rfl
  line := by simp
  noWait u st h := by
    intro j hj hu e he hst hwait
    obtain ⟨i, hi, rfl⟩ := List.mem_map.mp hj
    by_cases ht : i.tag = t
    · rw [if_pos ht] at hu he
      obtain ⟨d, hd, hds, hdw⟩ := hw i e he hwait
      have hi' : i.tag = u := (congrArg Prod.fst (hf i)).symm.trans hu
      exact h i hi hi' d hd (hds.trans hst) hdw
    · rw [if_neg ht] at hu he
      exact h i hi hu e he hst hwait
  opens X _ ho := by
    intro j hj hX
    obtain ⟨i, hi, rfl⟩ := List.mem_map.mp hj
    rw [Set.mem_union, not_or] at hX
    by_cases ht : i.tag = t
    · rw [if_pos ht] at hX ⊢
      have htag : (f i).tag = i.tag := congrArg Prod.fst (hf i)
      rw [htag] at hX
      have hop := ho i hi hX.2
      have hcl := hd (ht ▸ hX.1) i
      rw [hop] at hcl
      simpa using hcl
    · rw [if_neg ht] at hX ⊢
      exact ho i hi hX.2

theorem mapEntry_form (i : Item) (st : StationId) {f : Entry → Entry} (hf : ∀ e, (f e).station = e.station) :
    (i.mapEntry st f).form = i.form := by
  have e : ((fun e : Entry => e.station) ∘ fun e => if e.station = st then f e else e) = fun e => e.station := by
    funext e
    by_cases h : e.station = st <;> simp [h, hf]
  simp [Item.form, Item.mapEntry, e]

/-- A change of one entry that makes it neither WAIT nor, beyond the tags of `Y`, final. -/
theorem mapEntry_evolves {Y : Set Tag} {t : Tag} {st : StationId} {f : Entry → Entry} (s : State)
    (hf : ∀ e, (f e).station = e.station) (hw : ∀ e, (f e).outcome = .wait → e.outcome = .wait)
    (hd : t ∉ Y → ∀ e, (f e).outcome.isFinal = true → e.outcome.isFinal = true) : Evolves Y s (mapEntry t st f s) := by
  refine mapItem_evolves s (fun i => mapEntry_form i st hf) ?_ ?_
  · intro i e he hwait
    obtain ⟨d, hd, rfl⟩ := List.mem_map.mp he
    by_cases h : d.station = st
    · rw [if_pos h] at hwait ⊢
      exact ⟨d, hd, (hf d).symm, hw d hwait⟩
    · rw [if_neg h] at hwait ⊢
      exact ⟨d, hd, rfl, hwait⟩
  · intro hY i hdone
    unfold Item.isDone at hdone ⊢
    rw [List.all_eq_true] at hdone ⊢
    intro e he
    have hfin := hdone _ (List.mem_map_of_mem he)
    by_cases h : e.station = st
    · rw [if_pos h] at hfin
      exact hd hY e hfin
    · rwa [if_neg h] at hfin

theorem setOutcome_evolves {Y : Set Tag} (t : Tag) (st : StationId) {o : StationOutcome} (s : State) (ho : o ≠ .wait)
    (hd : t ∉ Y → o.isFinal = false) : Evolves Y s (setOutcome t st o s) := by
  have h : Evolves Y s (mapEntry t st (fun e => { e with outcome := o }) s) :=
    mapEntry_evolves s (fun _ => rfl) (fun _ h => absurd h ho) fun hY e h => by simp [hd hY] at h
  exact h.trans (.of_same Y rfl rfl rfl)

/-- A final outcome closes at most the item it is given to. -/
theorem setOutcome_evolves_own (t : Tag) (st : StationId) {o : StationOutcome} (s : State) (ho : o ≠ .wait) :
    Evolves {t} s (setOutcome t st o s) :=
  setOutcome_evolves t st s ho fun h => absurd rfl h

theorem filter_ne_tag_ne {s : State} {i : Item} (hi : ∃ j ∈ s.trk.table, j.tag = i.tag) : s.trk.table ≠ [] := by
  rintro h
  simp [h] at hi

/-- The removal of an item that is in the table. -/
theorem removeItem_evolves {i : Item} (d : Disposition) {s : State} (hi : ∃ j ∈ s.trk.table, j.tag = i.tag) :
    Evolves ∅ s (removeItem i d s) where
  form := by
    rw [removeItem_trk]
    exact List.filter_sublist.map _
  nextTag := by rw [removeItem_trk]
  line := by
    rw [removeItem_line, removeItem_trk]
    simp [filter_ne_tag_ne hi, and_comm]
  noWait u st h := by
    intro j hj
    rw [removeItem_trk] at hj
    exact h j (List.mem_of_mem_filter hj)
  opens X _ ho := by
    intro j hj hX
    rw [removeItem_trk] at hj
    exact ho j (List.mem_of_mem_filter hj) (by simpa using hX)

/-! ### The item of a tag -/

theorem item?_mem {s : State} {t : Tag} {i : Item} (h : s.item? t = some i) : i ∈ s.trk.table :=
  List.mem_of_find?_eq_some h

theorem item?_tag {s : State} {t : Tag} {i : Item} (h : s.item? t = some i) : i.tag = t := by
  simpa using List.find?_some h

theorem item?_none {s : State} {t : Tag} : s.item? t = none ↔ ∀ i ∈ s.trk.table, i.tag ≠ t := by
  simp [State.item?]

/-- Where no two items have one tag, an item of the table is the one its tag names. -/
theorem item?_of_mem {s : State} (hd : (s.trk.table.map (·.tag)).Nodup) {i : Item} (hi : i ∈ s.trk.table) :
    s.item? i.tag = some i := by
  cases h : s.item? i.tag with
  | none => exact absurd rfl (item?_none.mp h i hi)
  | some j => rw [List.inj_on_of_nodup_map hd (item?_mem h) hi (item?_tag h)]

theorem retireIfDone_none {s : State} {t : Tag} (h : s.item? t = none) : retireIfDone t s = s := by
  simp only [retireIfDone, h]

theorem retireIfDone_open {s : State} {t : Tag} {i : Item} (h : s.item? t = some i) (hi : i.isDone = false) :
    retireIfDone t s = s := by
  simp only [retireIfDone, h, hi, Bool.false_eq_true, if_false]

theorem retireIfDone_done {s : State} {t : Tag} {i : Item} (h : s.item? t = some i) (hi : i.isDone = true) :
    retireIfDone t s = removeItem i .completed s := by
  simp only [retireIfDone, h, hi, if_true]

theorem retireIfDone_evolves (t : Tag) (s : State) : Evolves ∅ s (retireIfDone t s) := by
  cases h : s.item? t with
  | none => rw [retireIfDone_none h]; exact .refl ∅ s
  | some i =>
    cases hi : i.isDone with
    | false => rw [retireIfDone_open h hi]; exact .refl ∅ s
    | true => rw [retireIfDone_done h hi]; exact removeItem_evolves _ ⟨i, item?_mem h, rfl⟩

/-- After the retirement check no item of the tag has every entry final (R23). -/
theorem retireIfDone_opens {t : Tag} {s : State} (hd : (s.trk.table.map (·.tag)).Nodup) :
    ∀ i ∈ (retireIfDone t s).trk.table, i.tag = t → i.isDone = false := by
  intro i hi ht
  cases h : s.item? t with
  | none =>
    rw [retireIfDone_none h] at hi
    exact absurd ht (item?_none.mp h i hi)
  | some j =>
    cases hj : j.isDone with
    | false =>
      rw [retireIfDone_open h hj] at hi
      have e := item?_of_mem hd hi
      rw [ht, h] at e
      rw [← Option.some.inj e, hj]
    | true =>
      rw [retireIfDone_done h hj, removeItem_trk] at hi
      have hne := List.of_mem_filter hi
      simp [ht, item?_tag h] at hne

/-- The retirement check takes care of the item that a change may have closed (R23). -/
theorem Evolves.retire {t : Tag} {a b : State} (h : Evolves {t} a b) : Evolves ∅ a (retireIfDone t b) :=
  h.closing (retireIfDone_evolves t b) retireIfDone_opens

/-! ### Notices -/

theorem passEvent_evolves (b : ReportBody) (s : State) : Evolves ∅ s (passEvent b s) := .of_reports (passEvent_keeps b s)

theorem startNotice_evolves (t : Tag) (st : StationId) (m l : Bool) (s : State) :
    Evolves ∅ s (startNotice t st m l s) := by
  have h : Evolves ∅ s (mapEntry t st (fun e =>
      { e with outcome := .active, merged := e.merged || m, lateStart := e.lateStart || l }) s) :=
    mapEntry_evolves s (fun _ => rfl) (fun _ h => nomatch h) fun _ _ h => nomatch h
  unfold startNotice
  split
  · exact .refl ∅ s
  · split
    · dsimp only
      split
      · exact h.trans (passEvent_evolves _ _)
      · exact h
    · exact .refl ∅ s

theorem missNotice_evolves (t : Tag) (st : StationId) (c : MissCause) (s : State) : Evolves ∅ s (missNotice t st c s) := by
  unfold missNotice
  split
  · exact (setOutcome_evolves_own t st s (by simp)).retire
  · exact .refl ∅ s

theorem endNoticeFor_evolves (b : Bool) (s : State) (p : Tag × StationId) : Evolves ∅ s (endNoticeFor b s p) := by
  unfold endNoticeFor
  split
  · have h : Evolves {p.1} s (mapEntry p.1 p.2 (fun e => { e with truncated := e.truncated || b }) s) :=
      mapEntry_evolves s (fun _ => rfl) (fun _ h => h) fun _ _ h => h
    exact (h.trans (setOutcome_evolves_own _ _ _ (by simp))).retire
  · exact .refl ∅ s

theorem endNotice_evolves (ps : List (Tag × StationId)) (b : Bool) (s : State) : Evolves ∅ s (endNotice ps b s) :=
  .foldl _ (endNoticeFor_evolves b) ps s

/-! ### Outputs -/

theorem mapOutput_evolves (n : OutputId) (f : Output → Output) (s : State) : Evolves ∅ s (mapOutput n f s) :=
  .of_same ∅ rfl rfl rfl

theorem endPulse_evolves (n : OutputId) (b : Bool) (s : State) : Evolves ∅ s (endPulse n b s) := by
  unfold endPulse
  split
  · exact .refl ∅ s
  · refine Evolves.trans ?_ (endNotice_evolves _ _ _)
    split <;> exact .of_same ∅ rfl rfl rfl

theorem endIfMet_evolves (n : OutputId) (s : State) : Evolves ∅ s (endIfMet n s) := by
  unfold endIfMet
  split
  · exact .refl ∅ s
  · split
    · exact endPulse_evolves n false s
    · exact .refl ∅ s

theorem refuseBusy_evolves (n : OutputId) (r : Request) (s : State) : Evolves ∅ s (refuseBusy n r s) :=
  (mapOutput_evolves n _ s).trans (missNotice_evolves _ _ _ _)

theorem beginPulse_evolves (n : OutputId) (p : Pulse) (s : State) : Evolves ∅ s (beginPulse n p s) :=
  .of_same ∅ rfl rfl rfl

theorem takeStart_evolves (n : OutputId) (l : Bool) (r : Request) (s : State) : Evolves ∅ s (takeStart n l r s) := by
  unfold takeStart
  dsimp only
  refine (mapOutput_evolves n (fun o => { o with waiting := o.waiting.erase r }) s).trans ?_
  split
  · split
    · exact ((beginPulse_evolves n _ _).trans (startNotice_evolves _ _ _ _ _)).trans (endIfMet_evolves n _)
    · exact (mapOutput_evolves n _ _).trans (startNotice_evolves _ _ _ _ _)
    · exact refuseBusy_evolves n r _
  · exact missNotice_evolves _ _ _ _

/-- A request refused because the list is full can close its item; the others leave it ARMED or take their starts. -/
theorem handRequest_evolves (n : OutputId) (r : Request) (s : State) : Evolves {r.tag} s (handRequest n r s) := by
  unfold handRequest
  split
  · exact setOutcome_evolves_own _ _ s (by simp)
  · have h : Evolves ∅ s (setOutcome r.tag r.station .armed
        (mapOutput n (fun o => { o with waiting := insertRequest r o.waiting }) s)) :=
      (mapOutput_evolves n _ s).trans (setOutcome_evolves _ _ _ (by simp) fun _ => rfl)
    refine Evolves.mono ?_ (Set.empty_subset _)
    dsimp only
    split
    · exact h.trans (.foldl _ (fun s q => takeStart_evolves n _ q s) _ _)
    · exact h

theorem tickEnd_evolves (n : OutputId) (s : State) : Evolves ∅ s (tickEnd n s) := by
  unfold tickEnd
  split
  · exact .refl ∅ s
  · split
    · exact endPulse_evolves n false s
    · exact .refl ∅ s

theorem takeStarts_evolves (n : OutputId) (rs : List Request) (s : State) : Evolves ∅ s (takeStarts n rs s) :=
  .foldl _ (fun s r => takeStart_evolves n false r s) rs s

theorem tickOutput_evolves (k : Nat) (n : OutputId) (s : State) : Evolves ∅ s (tickOutput k n s) :=
  ((takeStarts_evolves n _ s).trans (tickEnd_evolves n _)).trans (takeStarts_evolves n _ _)

theorem applyOutput_evolves (old : Configuration) (s : State) (n : OutputId) : Evolves ∅ s (applyOutput old s n) := by
  unfold applyOutput
  dsimp only
  refine (mapOutput_evolves n (fun o => { o with level := levelFor (s.outputConfig n).polarity o.state }) s).trans ?_
  split
  · split
    · exact endPulse_evolves n true _
    · exact .of_same ∅ rfl rfl rfl
    · exact .refl ∅ _
    · exact .refl ∅ _
  · exact .refl ∅ _

/-! ### TRK -/

theorem firstDecision_evolves (i : Item) (s : State) : Evolves ∅ s (firstDecision i s) := by
  have h (v : Verdict) : Evolves ∅ s (mapItem i.tag (fun j => { j with verdict := v }) s) :=
    mapItem_evolves s (fun _ => rfl) (fun _ e he hw => ⟨e, he, rfl, hw⟩) fun _ _ h => h
  unfold firstDecision
  split
  · exact (h _).trans (.of_same ∅ rfl rfl rfl)
  · exact h _
  · exact .refl ∅ s
  · exact .refl ∅ s

theorem commitEntry_evolves (t : Tag) (st : StationId) (s : State) : Evolves {t} s (commitEntry t st s) := by
  unfold commitEntry
  split
  · exact .refl _ s
  · rename_i i hi
    have hand (c : StationConfig) (s' : State) : Evolves {t} s' (handRequest c.output (requestFor i st c) s') := by
      have h := handRequest_evolves c.output (requestFor i st c) s'
      have ht : (requestFor i st c).tag = t := item?_tag hi
      rwa [ht] at h
    have first : Evolves {t} s (firstDecision i s) := (firstDecision_evolves i s).mono (Set.empty_subset _)
    split
    · dsimp only
      split
      · exact .refl _ s
      · exact hand _ s
      · split
        · exact first.trans (hand _ _)
        · exact first.trans (setOutcome_evolves_own t st _ (by simp))
    · exact .refl _ s

theorem tickTracking_evolves (s : State) : Evolves ∅ s (tickTracking s) :=
  .foldl _ (fun s (p : Tag × StationId) => (commitEntry_evolves p.1 p.2 s).retire) _ s

theorem purgeEntry_evolves (t : Tag) (s : State) (st : StationId) : Evolves {t} s (purgeEntry t s st) := by
  unfold purgeEntry
  dsimp only
  split
  · exact setOutcome_evolves_own t st s (by simp)
  · exact ((mapOutput_evolves _ _ s).mono (Set.empty_subset _)).trans (setOutcome_evolves_own t st _ (by simp))
  · exact ((mapOutput_evolves _ _ s).mono (Set.empty_subset _)).trans (setOutcome_evolves_own t st _ (by simp))
  · exact .refl _ s

theorem purgeEntries_evolves (t : Tag) (sts : List StationId) (s : State) :
    Evolves {t} s (sts.foldl (purgeEntry t) s) :=
  .foldl _ (purgeEntry_evolves t) sts s

theorem purgeItem_evolves (c : PurgeCause) (s : State) (i : Item) : Evolves ∅ s (purgeItem c s i) := by
  have h := purgeEntries_evolves i.tag (i.entries.map (·.station)) s
  unfold purgeItem
  dsimp only
  split
  · rename_i hn
    exact h.closing (.refl ∅ _) fun _ j hj ht => absurd ht (item?_none.mp hn j hj)
  · rename_i j hj
    refine h.closing (removeItem_evolves _ ⟨j, item?_mem hj, rfl⟩) fun _ k hk ht => ?_
    rw [removeItem_trk] at hk
    have hne := List.of_mem_filter hk
    simp [ht, item?_tag hj] at hne

theorem purgeItems_evolves (c : PurgeCause) (scope : Option LaneId) (s : State) : Evolves ∅ s (purgeItems c scope s) :=
  .foldl _ (purgeItem_evolves c) _ s

theorem takePair_evolves (t : Tag) (b : Byte) (s : State) : Evolves ∅ s (takePair t b s).1 := by
  have h (c : VerdictClass) : Evolves ∅ s (mapItem t (fun j => j.afterPair c) s) := by
    have hs (j : Item) : (j.afterPair c).tag = j.tag ∧ (j.afterPair c).entries = j.entries := by
      unfold Item.afterPair
      split
      · exact ⟨rfl, rfl⟩
      · split <;> exact ⟨rfl, rfl⟩
      · exact ⟨rfl, rfl⟩
      · exact ⟨rfl, rfl⟩
    refine mapItem_evolves s (fun j => ?_) (fun j e he hw => ?_) fun _ j hj => ?_
    · rw [Item.form, Item.form, (hs j).1, (hs j).2]
    · rw [(hs j).2] at he
      exact ⟨e, he, rfl, hw⟩
    · rw [Item.isDone, (hs j).2] at hj
      exact hj
  unfold takePair
  split
  · exact .refl ∅ s
  · split
    · exact .refl ∅ s
    · split
      · exact .refl ∅ s
      · dsimp only
        split
        · exact (h _).trans (.of_same ∅ rfl rfl rfl)
        · exact h _

/-! ### MOT and DET -/

theorem passStatus_evolves (s : State) : Evolves ∅ s (passStatus s) := .of_same ∅ rfl rfl rfl

theorem overlongTest_evolves (s : State) (n : LaneId) : Evolves ∅ s (overlongTest s n) := by
  unfold overlongTest
  dsimp only
  split
  · split
    · split <;> exact .of_same ∅ rfl rfl rfl
    · exact .refl ∅ s
  · exact .refl ∅ s

theorem advancePosition_evolves (s : State) : Evolves ∅ s (advancePosition s) := by
  unfold advancePosition
  split <;> exact .of_same ∅ rfl rfl rfl

theorem markMoving_evolves (s : State) : Evolves ∅ s (markMoving s) := by
  unfold markMoving
  dsimp only
  split <;> exact .of_same ∅ rfl rfl rfl

theorem tickOutputs_evolves (o : TickOrder) (ns : List OutputId) (s : State) : Evolves ∅ s (tickOutputs o ns s) :=
  .foldl _ (fun s n => tickOutput_evolves _ n s) ns s

theorem forwardTick_evolves (o : TickOrder) (s : State) : Evolves ∅ s (forwardTick o s) :=
  (((((advancePosition_evolves s).trans (markMoving_evolves _)).trans
    (.foldl _ overlongTest_evolves allLanes _)).trans (tickOutputs_evolves o _ _)).trans
    (tickTracking_evolves _)).trans (tickOutputs_evolves o _ _)

theorem forwardCount_evolves (o : TickOrder) (s : State) : Evolves ∅ s (forwardCount o s) := by
  unfold forwardCount
  split
  · exact forwardTick_evolves o s
  · dsimp only
    split <;> exact .of_same ∅ rfl rfl rfl

theorem setDebt_evolves (d : Nat) (s : State) : Evolves ∅ s (setDebt d s) := by
  unfold setDebt
  dsimp only
  split <;> exact .of_same ∅ rfl rfl rfl

end Sys2Proof.Machine

end

/-! ## Proofs: what every step keeps

A row of the table is an event at one block, its end, and the frames CMD then takes. `KeptByBlocks` lists what such events can do to
the blocks behind the link, and `step_keeps` says that a predicate of those blocks kept by each of them is kept by every step. -/

section

namespace Sys2Proof.Machine

open Sys2Proof

/-! ### What LNK, CMD and RPT leave alone -/

/-- Two states that agree in every block behind the link: LCU, MOT, DET, TRK and OUT. -/
structure SameBlocks (s t : State) : Prop where
  lcu : t.lcu = s.lcu
  mot : t.mot = s.mot
  det : t.det = s.det
  trk : t.trk = s.trk
  out : t.out = s.out

theorem SameBlocks.refl (s : State) : SameBlocks s s := ⟨rfl, rfl, rfl, rfl, rfl⟩

theorem SameBlocks.trans {a b c : State} (h : SameBlocks a b) (k : SameBlocks b c) : SameBlocks a c :=
  ⟨k.lcu.trans h.lcu, k.mot.trans h.mot, k.det.trans h.det, k.trk.trans h.trk, k.out.trans h.out⟩

theorem mapLnk_sameBlocks (f : Lnk → Lnk) (s : State) : SameBlocks s (mapLnk f s) := ⟨rfl, rfl, rfl, rfl, rfl⟩

theorem endEvent_sameBlocks (s : State) : SameBlocks s (endEvent s) := by
  obtain ⟨-, -, -, hlcu, hmot, hdet, -, htrk, hout, -⟩ := endEvent_keeps s
  exact ⟨hlcu, hmot, hdet, htrk, hout⟩

theorem frameError_sameBlocks (cause : LinkError) (s : State) : SameBlocks s (frameError cause s) := by
  unfold frameError
  dsimp only
  split <;> exact ⟨rfl, rfl, rfl, rfl, rfl⟩

theorem offerFrame_sameBlocks (f : Frame) (s : State) : SameBlocks s (offerFrame f s) := by
  unfold offerFrame
  split
  · exact ⟨rfl, rfl, rfl, rfl, rfl⟩
  · exact frameError_sameBlocks _ s

theorem takeCharacter_sameBlocks (v : Byte) (s : State) : SameBlocks s (takeCharacter v s) := by
  unfold takeCharacter
  split
  · split <;> exact ⟨rfl, rfl, rfl, rfl, rfl⟩
  · split
    · exact mapLnk_sameBlocks _ s
    · exact frameError_sameBlocks _ s
  · exact mapLnk_sameBlocks _ s
  · exact mapLnk_sameBlocks _ s
  · unfold judgeFrame
    split
    · exact (mapLnk_sameBlocks _ s).trans (offerFrame_sameBlocks _ _)
    · exact frameError_sameBlocks _ s

theorem takeFramingError_sameBlocks (s : State) : SameBlocks s (takeFramingError s) := by
  unfold takeFramingError
  split
  · exact ⟨rfl, rfl, rfl, rfl, rfl⟩
  all_goals exact frameError_sameBlocks _ s

theorem gapExpiry_sameBlocks (s : State) : SameBlocks s (gapExpiry s) := by
  unfold gapExpiry
  split
  · exact .refl s
  all_goals
    split
    · exact .refl s
    · exact frameError_sameBlocks _ s

theorem finishTaken_sameBlocks (c : Taken) (a : Answer) (s : State) : SameBlocks s (finishTaken c a s) := by
  unfold finishTaken
  dsimp only
  split <;> exact ⟨rfl, rfl, rfl, rfl, rfl⟩

theorem endAdvance_sameBlocks (s : State) : SameBlocks s (endAdvance s) := by
  unfold endAdvance
  split
  · exact finishTaken_sameBlocks _ _ s
  · exact .refl s

theorem beginCommand_sameBlocks (k : Kind) (f : Frame) (s : State) : SameBlocks s (beginCommand k f s) := by
  cases k <;> exact ⟨rfl, rfl, rfl, rfl, rfl⟩

theorem takeLinkResume_sameBlocks (f : Frame) (s : State) : SameBlocks s (takeLinkResume f s) := by
  unfold takeLinkResume
  split <;> exact ⟨rfl, rfl, rfl, rfl, rfl⟩

/-! ### Rows as events -/

/-- What a row does at its block, before its event ends. -/
def rowEvent (c : Instr) (s : State) : State :=
  match frameOfRow c with
  | some (kind, seq, payload) => offerFrame (goodFrame kind seq payload) s
  | none =>
    match c with
    | .verdictPair => takeNextPair s
    | .advanceCount o => makeAdvanceCount o s
    | .advanceEnd => endAdvance s
    | .pinReset rate1 rate0 => pinResetPart rate1 rate0 s
    | .characterReceived v e => if s.lnk.broken then s else if e then takeFramingError s else takeCharacter v s
    | .gapTimerExpiry => gapExpiry s
    | .breakRecognised => mapLnk (fun l => { l with receiver := .hunt, broken := true }) s
    | .linkBreak => linkReset (countLink (fun c => { c with breaks := c.breaks + 1 }) s)
    | .frameTransmitEnd => endTransmission s
    | .encoderTransition a b o => encoderSample (a, b) o s
    | .paceCount o => paceOverflow o s
    | .standstillExpiry => standstillExpiry s
    | .detectorRawChange n level => sampleDetector n level s
    | .detectorRevert n => sampleDetector n (s.expectedLevel n) s
    | .debounceExpiry n => debounceExpiry n s
    | .creationRequest n => takeRequest n s
    | .endTimeExpiry n => endTimeExpiry n s
    | .maxOnExpiry n => maxOnExpiry n s
    | .recoveryExpiry n => recoveryExpiry n s
    | _ => s

/-- Every row is its event, the event's end, and the frames CMD then takes (R157). -/
theorem exec_eq_settle (c : Instr) (s : State) : exec c s = .next (settle (rowEvent c s)) := by
  cases c <;> rfl

/-! ### Predicates of the blocks -/

/-- A predicate of the blocks behind the link that each of their events keeps. -/
structure KeptByBlocks (P : State → Prop) : Prop where
  frame : ∀ {s t}, P s → SameBlocks s t → P t
  command : ∀ k p {s}, P s → ∀ x ∈ instantCommand k p s, P x.1
  reset : ∀ s, P (partReset s)
  pair : ∀ t b {s}, P s → P (takePair t b s).1
  encoder : ∀ x o {s}, P s → P (encoderSample x o s)
  pace : ∀ o {s}, P s → P (paceOverflow o s)
  count : ∀ o {s}, P s → P (forwardCount o s)
  standstill : ∀ {s}, P s → P (standstillExpiry s)
  sample : ∀ n level {s}, P s → P (sampleDetector n level s)
  debounce : ∀ n {s}, P s → P (debounceExpiry n s)
  creation : ∀ n {s}, P s → P (takeRequest n s)
  endTime : ∀ n {s}, P s → P (endTimeExpiry n s)
  maxOn : ∀ n {s}, P s → P (maxOnExpiry n s)
  recovery : ∀ n {s}, P s → P (recoveryExpiry n s)

namespace KeptByBlocks

variable {P : State → Prop} {s : State} (h : KeptByBlocks P)

include h

theorem takeCommand (f : Frame) (hs : P s) : P (takeCommand f s) := by
  have h0 : P (mapLnk (fun l => { l with lastTaken := some f.seq }) s) := h.frame hs (mapLnk_sameBlocks _ s)
  have answered (a : Answer) {u : State} (hu : P u) : P (answerTaken f.kind f.seq f.crc a u) :=
    h.frame hu ⟨rfl, rfl, rfl, rfl, rfl⟩
  unfold Machine.takeCommand
  dsimp only
  split
  · exact answered _ h0
  · split
    · unfold executeCommand
      split
      · rename_i hx
        exact answered _ (h.command _ _ h0 _ hx)
      · exact h.frame h0 (beginCommand_sameBlocks _ f _)
    · exact answered _ h0

theorem judgeTaken (f : Frame) (hs : P s) : P (judgeTaken f s) := by
  unfold Machine.judgeTaken
  split
  · exact h.frame hs ⟨rfl, rfl, rfl, rfl, rfl⟩
  · split
    · exact h.frame hs (takeLinkResume_sameBlocks f s)
    · split
      · exact h.frame hs ⟨rfl, rfl, rfl, rfl, rfl⟩
      · exact h.takeCommand f hs

theorem takeFrames (k : Nat) : ∀ {s}, P s → P (takeFrames k s) := by
  induction k with
  | zero => exact fun hs => hs
  | succ k ih =>
    intro s hs
    unfold Machine.takeFrames
    split
    · split
      · exact ih (h.frame (h.judgeTaken _ (h.frame hs (mapLnk_sameBlocks _ s))) (endEvent_sameBlocks _))
      · exact hs
    · exact hs

theorem settle (hs : P s) : P (settle s) := h.takeFrames _ (h.frame hs (endEvent_sameBlocks s))

theorem linkReset (hs : P s) : P (linkReset s) := by
  unfold Machine.linkReset
  dsimp only
  split
  · exact h.reset _
  · exact h.frame hs ⟨rfl, rfl, rfl, rfl, rfl⟩

theorem endTransmission (hs : P s) : P (endTransmission s) := by
  unfold Machine.endTransmission
  split
  · exact hs
  · unfold transmitEffect
    split
    · exact h.frame hs (mapLnk_sameBlocks _ s)
    · exact h.frame hs ⟨rfl, rfl, rfl, rfl, rfl⟩
    · exact h.reset _

theorem takeNextPair (hs : P s) : P (takeNextPair s) := by
  unfold Machine.takeNextPair
  split
  · dsimp only
    split
    · exact h.frame (h.pair _ _ hs) (finishTaken_sameBlocks _ _ _)
    · exact h.frame (h.pair _ _ hs) ⟨rfl, rfl, rfl, rfl, rfl⟩
  · exact hs

theorem makeAdvanceCount (o : TickOrder) (hs : P s) : P (makeAdvanceCount o s) := by
  unfold Machine.makeAdvanceCount
  split
  · exact h.count o (h.frame hs ⟨rfl, rfl, rfl, rfl, rfl⟩)
  · exact hs

theorem characterReceived (v : Byte) (e : Bool) (hs : P s) :
    P (if s.lnk.broken then s else if e then takeFramingError s else takeCharacter v s) := by
  split
  · exact hs
  · split
    · exact h.frame hs (takeFramingError_sameBlocks s)
    · exact h.frame hs (takeCharacter_sameBlocks v s)

theorem rowEvent (c : Instr) (hs : P s) : P (rowEvent c s) := by
  unfold Machine.rowEvent
  split
  · exact h.frame hs (offerFrame_sameBlocks _ s)
  · split
    · exact h.takeNextPair hs
    · exact h.makeAdvanceCount _ hs
    · exact h.frame hs (endAdvance_sameBlocks s)
    · exact h.frame (h.reset s) ⟨rfl, rfl, rfl, rfl, rfl⟩
    · exact h.characterReceived _ _ hs
    · exact h.frame hs (gapExpiry_sameBlocks s)
    · exact h.frame hs (mapLnk_sameBlocks _ s)
    · exact h.linkReset (h.frame hs (mapLnk_sameBlocks _ s))
    · exact h.endTransmission hs
    · exact h.encoder _ _ hs
    · exact h.pace _ hs
    · exact h.standstill hs
    · exact h.sample _ _ hs
    · exact h.sample _ _ hs
    · exact h.debounce _ hs
    · exact h.creation _ hs
    · exact h.endTime _ hs
    · exact h.maxOn _ hs
    · exact h.recovery _ hs
    · exact hs

theorem step_keeps {t : State} (hs : P s) (ht : step s = .next t) : P t := by
  unfold step at ht
  split at ht
  · cases ht
    exact h.frame hs ⟨rfl, rfl, rfl, rfl, rfl⟩
  · rw [exec_eq_settle] at ht
    cases ht
    exact h.settle (h.rowEvent _ (h.frame hs ⟨rfl, rfl, rfl, rfl, rfl⟩))

end KeptByBlocks

end Sys2Proof.Machine

end

/-! ## Proofs: the invariants of the tracking table (R3, R4, R5, R8, R23) -/

section

namespace Sys2Proof.Machine

open Sys2Proof

/-! ### Tags -/

/-- Counted from 1, a tag value k places after another is k further on, around the 65535 values (R5). -/
theorem toNat_iterate_tagAfter {t : Tag} (ht : t ≠ 0) (k : Nat) :
    (tagAfter^[k] t).toNat = (t.toNat - 1 + k) % 65535 + 1 := by
  have step (u : Tag) (hu : u ≠ 0) : (tagAfter u).toNat = u.toNat % 65535 + 1 := by
    have h0 : u.toNat ≠ 0 := fun h => hu (BitVec.eq_of_toNat_eq h)
    have hlt := u.isLt
    unfold tagAfter
    split
    · next h => subst h; rfl
    · next h =>
      have h1 : u.toNat ≠ 65535 := fun e => h (BitVec.eq_of_toNat_eq e)
      have e1 : (1 : Tag).toNat = 1 := rfl
      rw [BitVec.toNat_add, e1]
      omega
  have h0 : t.toNat ≠ 0 := fun h => ht (BitVec.eq_of_toNat_eq h)
  have hlt := t.isLt
  induction k with
  | zero => simp only [Function.iterate_zero, id_eq]; omega
  | succ k ih =>
    rw [Function.iterate_succ_apply', step _ ?_, ih]
    · omega
    · intro h
      rw [h] at ih
      simp at ih

theorem iterate_tagAfter_ne_zero {t : Tag} (ht : t ≠ 0) (k : Nat) : tagAfter^[k] t ≠ 0 := by
  intro h
  have := toNat_iterate_tagAfter ht k
  rw [h] at this
  simp at this

theorem tagAfter_ne_zero {t : Tag} (ht : t ≠ 0) : tagAfter t ≠ 0 := iterate_tagAfter_ne_zero ht 1

/-- The values met within fewer than 65535 places are distinct (R5). -/
theorem iterate_tagAfter_inj {t : Tag} (ht : t ≠ 0) {j k : Nat} (hj : j < 65535) (hk : k < 65535)
    (h : tagAfter^[j] t = tagAfter^[k] t) : j = k := by
  have e := congrArg BitVec.toNat h
  rw [toNat_iterate_tagAfter ht, toNat_iterate_tagAfter ht] at e
  omega

/-- The search stops at the first value not held, or at the last of its tries (R5). -/
theorem freshTag_eq_iterate (held : List Tag) (n : Nat) : ∀ t : Tag,
    ∃ k ≤ n, freshTag n t held = tagAfter^[k] t ∧ (∀ j < k, tagAfter^[j] t ∈ held) ∧ (k < n → tagAfter^[k] t ∉ held) := by
  induction n with
  | zero => exact fun t => ⟨0, le_rfl, rfl, fun j hj => absurd hj (Nat.not_lt_zero j), fun h => absurd h (lt_irrefl 0)⟩
  | succ n ih =>
    intro t
    by_cases ht : t ∈ held
    · obtain ⟨k, hk, he, hheld, hfree⟩ := ih (tagAfter t)
      refine ⟨k + 1, by omega, ?_, ?_, ?_⟩
      · rw [freshTag, if_pos (by simpa using ht), he, Function.iterate_succ_apply]
      · intro j hj
        cases j with
        | zero => exact ht
        | succ j => rw [Function.iterate_succ_apply]; exact hheld j (by omega)
      · intro h
        rw [Function.iterate_succ_apply]
        exact hfree (by omega)
    · refine ⟨0, by omega, ?_, fun j hj => absurd hj (Nat.not_lt_zero j), fun _ => ht⟩
      rw [freshTag, if_neg (by simpa using ht), Function.iterate_zero, id_eq]

/-- With fewer tags held than there are values, the tries are as many as it takes: were the last value held too, there would be
one more held value than the list has places. -/
theorem freshTag_spec {held : List Tag} {t : Tag} (ht : t ≠ 0) (hl : held.length < 65535) :
    freshTag held.length t held ∉ held
      ∧ ∃ k, freshTag held.length t held = tagAfter^[k] t ∧ ∀ j < k, tagAfter^[j] t ∈ held := by
  obtain ⟨k, hk, he, hheld, hfree⟩ := freshTag_eq_iterate held held.length t
  refine ⟨?_, k, he, hheld⟩
  rw [he]
  rcases Nat.lt_or_eq_of_le hk with h | h
  · exact hfree h
  · intro hmem
    have hsub : (List.range (k + 1)).map (fun j => tagAfter^[j] t) ⊆ held := by
      intro u hu
      obtain ⟨j, hj, rfl⟩ := List.mem_map.mp hu
      rcases Nat.lt_or_eq_of_le (Nat.lt_succ_iff.mp (List.mem_range.mp hj)) with h' | h'
      · exact hheld j h'
      · exact h' ▸ hmem
    have hnodup : ((List.range (k + 1)).map fun j => tagAfter^[j] t).Nodup := by
      refine List.nodup_range.map_on fun i hi j hj h => ?_
      have hi' := List.mem_range.mp hi
      have hj' := List.mem_range.mp hj
      exact iterate_tagAfter_inj ht (by omega) (by omega) h
    have hlen := (hnodup.subperm hsub).length_le
    rw [List.length_map, List.length_range] at hlen
    omega

/-- The tag of a new item is not 0, and no item of the table holds it (R5). -/
theorem newTag_spec {s : State} (hl : s.trk.table.length ≤ 128) (hn : s.trk.nextTag ≠ 0) :
    s.newTag ≠ 0 ∧ s.newTag ∉ s.trk.table.map (·.tag)
      ∧ ∃ k, s.newTag = tagAfter^[k] s.trk.nextTag ∧ ∀ j < k, tagAfter^[j] s.trk.nextTag ∈ s.trk.table.map (·.tag) := by
  obtain ⟨hfree, k, he, hheld⟩ := freshTag_spec (held := s.trk.table.map (·.tag)) hn (by rw [List.length_map]; omega)
  rw [List.length_map] at hfree he
  exact ⟨by unfold State.newTag; rw [he]; exact iterate_tagAfter_ne_zero hn k, hfree, k, he, hheld⟩

/-! ### What the invariants of the table read -/

/-- A predicate of the tracking table and the line state that evolution keeps, and the few events that do more: a creation in RUN,
a change of the line state, an emptying of the table, and a reset. -/
structure KeptByTable (P : State → Prop) : Prop where
  evolves : ∀ {s t}, P s → Evolves ∅ s t → P t
  creation : ∀ r {s}, s.lcu.line = .run → s.trk.table.length < 128 → P s → P (createItem r s)
  line : ∀ l {s}, l = .run ∨ l = .draining ∨ s.trk.table = [] ∨ s.lcu.line = .halted → P s → P (setLine l s)
  emptied : ∀ {s t}, P s → t.trk.table = [] → t.trk.nextTag = s.trk.nextTag → P t
  reset : ∀ {t}, t.trk = .reset → P t

/-! ### Commands -/

theorem Evolves.of_sameBlocks {s t : State} (h : SameBlocks s t) : Evolves ∅ s t :=
  .of_same ∅ (by rw [h.trk]) (by rw [h.trk]) (by rw [h.lcu])

theorem clearCounters_evolves (g : CounterGroup) (s : State) : Evolves ∅ s (clearCounters g s) := by
  cases g <;> exact .of_same ∅ rfl rfl rfl

theorem commandGetCounters_evolves (p : List Byte) (s : State) : Evolves ∅ s (commandGetCounters p s).1 := by
  unfold commandGetCounters
  split
  · dsimp only
    split
    · exact clearCounters_evolves _ s
    · exact .refl ∅ s
  · exact .refl ∅ s

theorem acknowledge_evolves (n : BitVec 16) (w : Nat) (s : State) : Evolves ∅ s (acknowledge n w s) := by
  unfold acknowledge clearEncoderError
  dsimp only
  split <;> split <;> (try split) <;> exact .of_same ∅ rfl rfl rfl

theorem commandReportAck_evolves (p : List Byte) (s : State) : Evolves ∅ s (commandReportAck p s).1 := by
  unfold commandReportAck
  dsimp only
  split
  · exact .refl ∅ s
  · split
    · exact acknowledge_evolves _ _ s
    · exact .refl ∅ s

theorem stage_evolves (c : Option (Configuration → Configuration)) (s : State) : Evolves ∅ s (stage c s).1 := by
  cases c <;> exact .of_same ∅ rfl rfl rfl

theorem reinitLane_evolves (n : LaneId) (s : State) : Evolves ∅ s (reinitLane n s) := by
  unfold reinitLane
  dsimp only
  split <;> exact .of_same ∅ rfl rfl rfl

theorem applyLanes_evolves (old : Configuration) (s : State) : Evolves ∅ s (applyLanes old s) := by
  refine .foldl _ (fun s n => ?_) allLanes s
  split
  · exact reinitLane_evolves n s
  · exact .refl ∅ s

theorem applyMotion_evolves (old : MotionConfig) (s : State) : Evolves ∅ s (applyMotion old s) := by
  have hmot (f : Mot → Mot) (u : State) : Evolves ∅ u (mapMot f u) := .of_same ∅ rfl rfl rfl
  have hsource : Evolves ∅ s
      (if s.lcu.active.motion.source = .encoder ∧ old.source ≠ .encoder then
        mapMot (fun m => { m with reference := (s.pins.encA, s.pins.encB) }) s
      else if s.lcu.active.motion.source = .pace ∧ old.source ≠ .pace then
        mapMot (fun m => { m with accumulator := 0, paceTime := s.now, owedCounts := 0 }) s
      else if s.lcu.active.motion.source = .pace ∧ old.paceRate ≠ s.lcu.active.motion.paceRate then
        paceCatchUp old.paceRate s
      else s) := by
    split
    · exact hmot _ s
    · split
      · exact hmot _ s
      · split
        · exact .of_same ∅ rfl rfl rfl
        · exact .refl ∅ s
  have hdebt (limit : Nat) (u : State) :
      Evolves ∅ u (if limit + 1 < u.mot.debt then mapMot (fun m => { m with debt := limit + 1 }) u else u) := by
    split
    · exact hmot _ u
    · exact .refl ∅ u
  exact hsource.trans (hdebt _ _)

theorem applyStaged_evolves (s : State) : Evolves ∅ s (applyStaged s) := by
  have hcopy : Evolves ∅ s { s with lcu := { s.lcu with active := s.lcu.staged } } := .of_same ∅ rfl rfl rfl
  have hblocks := ((hcopy.trans (applyMotion_evolves s.lcu.active.motion _)).trans
    (applyLanes_evolves s.lcu.active _)).trans (.foldl _ (applyOutput_evolves s.lcu.active) allEight _)
  exact hblocks.trans (.of_same ∅ rfl rfl rfl)

theorem commandApply_evolves (s : State) : Evolves ∅ s (commandApply s).1 := by
  unfold commandApply
  split
  · exact .refl ∅ s
  · exact applyStaged_evolves s

theorem commandForceOutput_evolves (p : List Byte) (s : State) : Evolves ∅ s (commandForceOutput p s).1 := by
  unfold commandForceOutput
  split
  · split
    · exact .refl ∅ s
    · dsimp only
      unfold forceByState
      split <;> exact .of_same ∅ rfl rfl rfl
  · exact .refl ∅ s

theorem commandPurge_evolves (p : List Byte) (s : State) : Evolves ∅ s (commandPurge p s).1 := by
  unfold commandPurge
  split
  · exact .refl ∅ s
  · split
    · exact purgeItems_evolves _ _ s
    · exact purgeItems_evolves _ _ s
    · exact .refl ∅ s
    · exact .refl ∅ s

/-! ### A purge of ALL empties the table -/

/-- A purge takes an entry of one item, and leaves the items of other tags as they are. -/
theorem purgeEntry_others (t : Tag) (s : State) (st : StationId) :
    (purgeEntry t s st).trk.table.filter (fun j => j.tag != t) = s.trk.table.filter fun j => j.tag != t := by
  have hmap (f : Item → Item) (hf : ∀ i, (f i).tag = i.tag) (l : List Item) :
      (l.map fun i => if i.tag = t then f i else i).filter (fun j => j.tag != t) = l.filter fun j => j.tag != t := by
    induction l with
    | nil => rfl
    | cons i l ih =>
      by_cases h : i.tag = t
      · simp [h, hf, ih]
      · simp [h, ih]
  have hset (o : StationOutcome) (u : State) :
      (setOutcome t st o u).trk.table.filter (fun j => j.tag != t) = u.trk.table.filter fun j => j.tag != t :=
    hmap (fun i => i.mapEntry st fun e => { e with outcome := o }) (fun _ => rfl) u.trk.table
  unfold purgeEntry
  dsimp only
  split
  · exact hset _ _
  · exact hset _ _
  · exact hset _ _
  · rfl

theorem purgeEntries_others (t : Tag) (sts : List StationId) (s : State) :
    (sts.foldl (purgeEntry t) s).trk.table.filter (fun j => j.tag != t) = s.trk.table.filter fun j => j.tag != t :=
  foldl_keeps (fun s : State => s.trk.table.filter fun j => j.tag != t) _ (purgeEntry_others t) sts s

/-- What the purge of an item leaves in the table: the items of other tags, as they were (R24). -/
theorem purgeItem_table (c : PurgeCause) (s : State) (i : Item) :
    (purgeItem c s i).trk.table = s.trk.table.filter fun j => j.tag != i.tag := by
  rw [← purgeEntries_others i.tag (i.entries.map (·.station)) s]
  unfold purgeItem
  dsimp only
  split
  · rename_i hn
    exact (List.filter_eq_self.mpr fun j hj => by simpa using item?_none.mp hn j hj).symm
  · rename_i j hj
    rw [removeItem_trk, item?_tag hj]

/-- What the purge of some items leaves in the table: the items of other tags, as they were (R24). -/
theorem foldl_purgeItem_table (c : PurgeCause) (is : List Item) : ∀ s : State,
    (is.foldl (purgeItem c) s).trk.table = s.trk.table.filter fun j => is.all fun i => j.tag != i.tag := by
  induction is with
  | nil => exact fun s => by simp
  | cons i is ih =>
    intro s
    rw [List.foldl_cons, ih, purgeItem_table, List.filter_filter]
    refine congrArg₂ _ (funext fun j => ?_) rfl
    rw [List.all_cons, Bool.and_comm]

theorem inScope_none : inScope none = fun _ => true := rfl

/-- A purge of ALL empties the table, whatever stands in it (R24). -/
theorem purgeItems_all_table (c : PurgeCause) (s : State) : (purgeItems c none s).trk.table = [] := by
  unfold purgeItems
  rw [foldl_purgeItem_table, inScope_none, List.filter_true, List.filter_eq_nil_iff]
  intro j hj h
  simpa using List.all_eq_true.mp h j hj

theorem purgeItems_nextTag (c : PurgeCause) (scope : Option LaneId) (s : State) :
    (purgeItems c scope s).trk.nextTag = s.trk.nextTag := (purgeItems_counts c scope s).nextTag

theorem haltLine_table (c : PurgeCause) (s : State) : (haltLine c s).trk.table = [] := purgeItems_all_table c _

theorem haltLine_nextTag (c : PurgeCause) (s : State) : (haltLine c s).trk.nextTag = s.trk.nextTag := by
  unfold haltLine
  rw [purgeItems_nextTag, setLine_trk]

/-! ### From the table to every step -/

namespace KeptByTable

variable {P : State → Prop} (h : KeptByTable P)

include h

theorem lineCommand (k : Kind) (hk : k ∈ [Kind.start, .stop, .halt, .abort, .resume]) (p : List Byte) {s : State} (hs : P s) :
    ∀ x ∈ instantCommand k p s, P x.1 := by
  rintro x hx
  have emptied {t : State} (ht : t.trk.table = []) (hn : t.trk.nextTag = s.trk.nextTag) : P t := h.emptied hs ht hn
  fin_cases hk <;> cases hx
  · show P (commandStart s).1
    unfold commandStart
    split
    · exact hs
    · split
      · exact hs
      · exact h.evolves (h.line .run (.inl rfl) hs) (Evolves.from_same (setDebt_evolves 0 _) rfl rfl rfl)
  · show P (commandStop s).1
    unfold commandStop
    split
    · show P (setLine _ s)
      cases ht : s.trk.table with
      | nil => exact h.line _ (.inr (.inr (.inl ht))) hs
      | cons i l => exact h.line _ (.inr (.inl rfl)) hs
    · exact hs
    · next hl => exact h.line _ (.inr (.inr (.inr hl))) hs
    · exact hs
  · show P (commandHalt s).1
    unfold commandHalt
    split
    · exact emptied (haltLine_table _ s) (haltLine_nextTag _ s)
    · exact emptied (haltLine_table _ s) (haltLine_nextTag _ s)
    · exact hs
    · exact hs
  · have purged : P (purgeItems .abort none (setLine .setup s)) :=
      emptied (purgeItems_all_table _ _) (by rw [purgeItems_nextTag, setLine_trk])
    show P (commandAbort s).1
    unfold commandAbort
    split
    · exact hs
    all_goals exact purged
  · show P (commandResume s).1
    unfold commandResume
    split
    · exact h.evolves (h.line .run (.inl rfl) hs) (setDebt_evolves 0 _)
    all_goals exact hs

theorem command (k : Kind) (p : List Byte) {s : State} (hs : P s) : ∀ x ∈ instantCommand k p s, P x.1 := by
  by_cases hk : k ∈ [Kind.start, .stop, .halt, .abort, .resume]
  · exact h.lineCommand k hk p hs
  · rintro x hx
    have keeps {t : State} (ht : Evolves ∅ s t) : P t := h.evolves hs ht
    cases k
    case start | stop | halt | abort | resume => exact absurd hk (by decide)
    case verdict => cases hx
    case advance =>
      obtain ⟨r, -, rfl⟩ := Option.map_eq_some_iff.mp hx
      exact hs
    case setLink => cases hx; unfold commandSetLink; split <;> exact hs
    case readConfig => cases hx; unfold commandReadConfig; split <;> exact hs
    case readItem => cases hx; unfold commandReadItem; dsimp only; split <;> (try split) <;> exact hs
    case listItems => cases hx; unfold commandListItems; split <;> exact hs
    case getCounters => cases hx; exact keeps (commandGetCounters_evolves p s)
    case reportAck => cases hx; exact keeps (commandReportAck_evolves p s)
    case purge => cases hx; exact keeps (commandPurge_evolves p s)
    case setMotion | setLane | setStation | setOutput | setReporting => cases hx; exact keeps (stage_evolves _ s)
    case apply => cases hx; exact keeps (commandApply_evolves s)
    case forceOutput => cases hx; exact keeps (commandForceOutput_evolves p s)
    all_goals
      cases hx
      exact keeps (.of_same ∅ rfl rfl rfl)

theorem reverseCount {s : State} (hs : P s) : P (reverseCount s) := by
  have hd := h.evolves hs (setDebt_evolves (s.mot.debt + 1) s)
  unfold Machine.reverseCount
  dsimp only
  split
  · exact hs
  · split
    · refine h.emptied hd (haltLine_table _ _) ?_
      rw [haltLine_nextTag, (passFault_keeps _ _).trk]
    · exact hd

theorem encoderSample (x : Bool × Bool) (o : TickOrder) {s : State} (hs : P s) : P (encoderSample x o s) := by
  have same {u t : State} (hu : P u) (ht : SameBlocks u t) : P t := h.evolves hu (.of_sameBlocks ht)
  have hpins := same hs (t := { s with pins := { s.pins with encA := x.1, encB := x.2 } }) ⟨rfl, rfl, rfl, rfl, rfl⟩
  have hmot {u : State} (f : Mot → Mot) (hu : P u) : P (mapMot f u) := h.evolves hu (.of_same ∅ rfl rfl rfl)
  unfold Machine.encoderSample illegalTransition
  dsimp only
  split
  · split
    · exact hpins
    · split
      · split
        · exact hmot _ (hmot _ hpins)
        · exact h.evolves (hmot _ (hmot _ hpins)) (passStatus_evolves _)
      · split
        · exact h.evolves (hmot _ hpins) (forwardCount_evolves o _)
        · exact h.reverseCount (hmot _ hpins)
  · exact hpins

theorem takeRequest (n : LaneId) {s : State} (hs : P s) : P (takeRequest n s) := by
  unfold Machine.takeRequest
  split
  · exact hs
  · rename_i r _
    have hs' : P { s with requests := s.requests.erase r } := h.evolves hs (.of_same ∅ rfl rfl rfl)
    have hcount (f : LaneCounters → LaneCounters) : P (countLane r.lane f { s with requests := s.requests.erase r }) :=
      h.evolves hs' (.of_same ∅ rfl rfl rfl)
    unfold takeCreation
    split
    · exact hcount _
    · rename_i hl
      split
      · exact h.evolves (hcount _) (.of_reports (passFault_keeps _ _))
      · rename_i hfull
        exact h.creation r (not_not.mp hl) (not_le.mp hfull) hs'

end KeptByTable

theorem paceOverflow_evolves (o : TickOrder) (s : State) : Evolves ∅ s (paceOverflow o s) := by
  unfold paceOverflow
  extract_lets rate
  split
  · split
    · exact Evolves.from_same (forwardCount_evolves o _) rfl rfl rfl
    · rename_i k u _ _
      have ht : u.trk = s.trk := mapMot_trk s _
      have hl : u.lcu = s.lcu := mapMot_lcu s _
      refine (forwardCount_evolves o _).from_same ?_ ?_ ?_
      · rw [reachTime_trk, ht]
      · rw [reachTime_trk, ht]
      · rw [reachTime_lcu, hl]
  · exact .refl ∅ s

theorem standstillExpiry_evolves (s : State) : Evolves ∅ s (standstillExpiry s) := by
  unfold standstillExpiry
  split
  · exact .refl ∅ s
  · dsimp only
    split <;> exact .of_same ∅ rfl rfl rfl

theorem acceptEdge_evolves (n : LaneId) (edge : Nat) (s : State) : Evolves ∅ s (acceptEdge n edge s) := by
  unfold acceptEdge acceptLeading acceptTrailing
  dsimp only
  split
  · split
    · exact .of_same ∅ rfl rfl rfl
    · split <;> exact .of_same ∅ rfl rfl rfl
  · split
    · exact .of_same ∅ rfl rfl rfl
    all_goals split <;> exact .of_same ∅ rfl rfl rfl
  · exact .of_same ∅ rfl rfl rfl
  · exact .of_same ∅ rfl rfl rfl

theorem judgeSample_evolves (n : LaneId) (level : Bool) (s : State) : Evolves ∅ s (judgeSample n level s) := by
  unfold judgeSample startCandidate
  dsimp only
  split
  · exact .refl ∅ s
  · split
    · exact acceptEdge_evolves n _ s
    · exact .of_same ∅ rfl rfl rfl
  · exact .refl ∅ s
  · exact .of_same ∅ rfl rfl rfl

theorem sampleDetector_evolves (n : LaneId) (level : Bool) (s : State) : Evolves ∅ s (sampleDetector n level s) := by
  unfold sampleDetector
  dsimp only
  split
  · exact Evolves.from_same (judgeSample_evolves n level _) rfl rfl rfl
  · exact .of_same ∅ rfl rfl rfl

theorem debounceExpiry_evolves (n : LaneId) (s : State) : Evolves ∅ s (debounceExpiry n s) := by
  unfold debounceExpiry
  split
  · exact .refl ∅ s
  · exact Evolves.from_same (acceptEdge_evolves n _ _) rfl rfl rfl

theorem endTimeExpiry_evolves (n : OutputId) (s : State) : Evolves ∅ s (endTimeExpiry n s) := by
  unfold endTimeExpiry
  split
  · exact .refl ∅ s
  · exact Evolves.from_same (endIfMet_evolves n _) rfl rfl rfl

theorem maxOnExpiry_evolves (n : OutputId) (s : State) : Evolves ∅ s (maxOnExpiry n s) := by
  unfold maxOnExpiry
  split
  · exact .refl ∅ s
  · exact Evolves.from_same (endPulse_evolves n true _) rfl rfl rfl

theorem recoveryExpiry_evolves (n : OutputId) (s : State) : Evolves ∅ s (recoveryExpiry n s) := by
  unfold recoveryExpiry
  split
  · exact .refl ∅ s
  · exact .of_same ∅ rfl rfl rfl

/-- A predicate of the table and the line state is kept by the events of every block. -/
theorem KeptByTable.blocks {P : State → Prop} (h : KeptByTable P) : KeptByBlocks P where
  frame hs ht := h.evolves hs (.of_sameBlocks ht)
  command k p _ hs := h.command k p hs
  reset _ := h.reset rfl
  pair t b _ hs := h.evolves hs (takePair_evolves t b _)
  encoder x o _ hs := h.encoderSample x o hs
  pace o _ hs := h.evolves hs (paceOverflow_evolves o _)
  count o _ hs := h.evolves hs (forwardCount_evolves o _)
  standstill hs := h.evolves hs (standstillExpiry_evolves _)
  sample n level _ hs := h.evolves hs (sampleDetector_evolves n level _)
  debounce n _ hs := h.evolves hs (debounceExpiry_evolves n _)
  creation n _ hs := h.takeRequest n hs
  endTime n _ hs := h.evolves hs (endTimeExpiry_evolves n _)
  maxOn n _ hs := h.evolves hs (maxOnExpiry_evolves n _)
  recovery n _ hs := h.evolves hs (recoveryExpiry_evolves n _)

end Sys2Proof.Machine

end

/-! ## Proofs: O53 and O54 -/

section

namespace Sys2Proof.Machine

open Sys2Proof

/-! ### A creation, and what follows it -/

theorem newItem_tag (r : CreationRequest) (s : State) : (newItem r s).tag = s.newTag := rfl

theorem newItem_stations (r : CreationRequest) (s : State) :
    (newItem r s).entries.map (·.station) = allEight.filter fun st =>
      (s.lcu.active.stations.get st).kind != .off && (s.lcu.active.stations.get st).lane == r.lane := by
  show List.map _ (newEntries _ _) = _
  unfold newEntries
  rw [List.map_map]
  exact List.map_id _

/-- The outcome list of a new item is in ascending station number (R8). -/
theorem newItem_stations_ascending (r : CreationRequest) (s : State) :
    ((newItem r s).entries.map (·.station)).Pairwise (· < ·) := by
  rw [newItem_stations]
  have h : allEight.Pairwise (· < ·) := by decide
  exact h.filter _

theorem placeItem_table (i : Item) (s : State) : (placeItem i s).trk.table = s.trk.table ++ [i] := by
  unfold placeItem
  dsimp only
  split <;> rfl

theorem placeItem_nextTag (i : Item) (s : State) : (placeItem i s).trk.nextTag = tagAfter i.tag := by
  unfold placeItem
  dsimp only
  split <;> rfl

theorem placeItem_lcu (i : Item) (s : State) : (placeItem i s).lcu = s.lcu := by
  unfold placeItem
  dsimp only
  split <;> rfl

/-- A pattern skip can close the new item alone. -/
theorem selectPattern_evolves (t : Tag) (s : State) (st : StationId) : Evolves {t} s (selectPattern t s st) := by
  unfold selectPattern
  dsimp only
  split
  · split
    · exact .of_same _ rfl rfl rfl
    · exact (setOutcome_evolves_own t st _ (by simp)).from_same rfl rfl rfl
  · exact .refl _ s

theorem announceItem_evolves (i : Item) (s : State) : Evolves ∅ s (announceItem i s) := by
  unfold announceItem
  split
  · exact passEvent_evolves _ s
  · exact .refl ∅ s

/-- After the item is placed, what happens to it before its retirement check can close it alone (R13). -/
theorem createItem_eq_retire (r : CreationRequest) (s : State) :
    ∃ u, createItem r s = retireIfDone s.newTag u ∧ Evolves {s.newTag} (placeItem (newItem r s) s) u := by
  have hselect := Evolves.foldl _ (selectPattern_evolves s.newTag) ((newItem r s).entries.map (·.station))
    (placeItem (newItem r s) s)
  have hannounce := hselect.trans ((announceItem_evolves (newItem r s) _).mono (Set.empty_subset _))
  exact ⟨_, rfl, hannounce.trans (.foldl _ (fun u st => commitEntry_evolves s.newTag st u) _ _)⟩

/-- The creation's retirement check takes care of all that it does to the placed item (R13). -/
theorem createItem_evolves (r : CreationRequest) (s : State) :
    Evolves ∅ (placeItem (newItem r s) s) (createItem r s) := by
  obtain ⟨u, hu, hev⟩ := createItem_eq_retire r s
  rw [hu]
  exact hev.retire

/-! ### The invariants -/

theorem openBeyond_empty {s : State} : OpenBeyond ∅ s ↔ OpenItemsInv s := by
  simp [OpenBeyond]

theorem placeItem_tableInv {r : CreationRequest} {s : State} (hfull : s.trk.table.length < 128) (h : TableInv s) :
    TableInv (placeItem (newItem r s) s) := by
  obtain ⟨hlen, hdistinct, hzero, hnext⟩ := h
  obtain ⟨hne, hfresh, -⟩ := newTag_spec hlen hnext
  refine ⟨?_, ?_, ?_, ?_⟩
  · rw [placeItem_table, List.length_append, List.length_singleton]
    omega
  · rw [placeItem_table, List.map_append, List.nodup_append]
    refine ⟨hdistinct, List.nodup_singleton _, fun a ha b hb hab => ?_⟩
    rw [List.map_singleton, List.mem_singleton, newItem_tag] at hb
    exact hfresh (hb ▸ hab ▸ ha)
  · rw [placeItem_table, List.map_append, List.mem_append, not_or]
    exact ⟨hzero, by simpa [newItem_tag] using hne.symm⟩
  · rw [placeItem_nextTag]
    exact tagAfter_ne_zero hne

theorem tableInv_of_evolves {Y : Set Tag} {s t : State} (h : TableInv s) (ht : Evolves Y s t) : TableInv t := by
  obtain ⟨hlen, hdistinct, hzero, hnext⟩ := h
  refine ⟨?_, ht.tags.nodup hdistinct, fun h => hzero (ht.tags.subset h), by rw [ht.nextTag]; exact hnext⟩
  have hle := ht.form.length_le
  rw [List.length_map, List.length_map] at hle
  exact hle.trans hlen

theorem tableInv_of_empty {s : State} (ht : s.trk.table = []) (hn : s.trk.nextTag ≠ 0) : TableInv s := by
  unfold TableInv
  rw [ht]
  exact ⟨Nat.zero_le _, List.nodup_nil, by simp, hn⟩

theorem tableInv_keptByTable : KeptByTable TableInv where
  evolves := tableInv_of_evolves
  creation r _ _ hfull h := tableInv_of_evolves (placeItem_tableInv hfull h) (createItem_evolves r _)
  line l s _ h := by unfold TableInv; rw [setLine_trk]; exact h
  emptied h ht hn := tableInv_of_empty ht (by rw [hn]; exact h.2.2.2)
  reset ht := tableInv_of_empty (by rw [ht]; rfl) (by rw [ht]; decide)

/-- The stations of an outcome list are part of an item's form. -/
theorem outcomeListInv_iff {s : State} :
    OutcomeListInv s ↔ ∀ f ∈ s.trk.table.map Item.form, f.2.Pairwise (· < ·) := by
  simp [Item.form]

theorem outcomeListInv_keptByTable : KeptByTable OutcomeListInv where
  evolves h ht := by
    rw [outcomeListInv_iff] at h ⊢
    exact fun f hf => h f (ht.form.subset hf)
  creation r s _ _ h := by
    have hplaced : OutcomeListInv (placeItem (newItem r s) s) := by
      intro i hi
      rw [placeItem_table, List.mem_append, List.mem_singleton] at hi
      rcases hi with hi | rfl
      · exact h i hi
      · exact newItem_stations_ascending r s
    rw [outcomeListInv_iff] at hplaced ⊢
    exact fun f hf => hplaced f ((createItem_evolves r s).form.subset hf)
  line l s _ h := by unfold OutcomeListInv; rw [setLine_trk]; exact h
  emptied _ ht _ := by unfold OutcomeListInv; rw [ht]; simp
  reset ht := by unfold OutcomeListInv; rw [ht]; simp [Trk.reset]

theorem lineTableInv_of_evolves {s t : State} (h : LineTableInv s) (ht : Evolves ∅ s t) : LineTableInv t := by
  intro hl
  rw [ht.line] at hl
  split at hl
  · next hd => exact hd.2.2
  · exact ht.empty (h hl)

theorem lineTableInv_keptByTable : KeptByTable LineTableInv where
  evolves := lineTableInv_of_evolves
  creation r s hl _ _ := by
    have hrun : (placeItem (newItem r s) s).lcu.line = .run := by rw [placeItem_lcu]; exact hl
    refine lineTableInv_of_evolves (fun h => ?_) (createItem_evolves r s)
    simp [hrun] at h
  line l s hl h := by
    unfold LineTableInv
    rw [setLine_line, setLine_trk]
    rcases hl with rfl | rfl | ht | hh
    · simp
    · simp
    · exact fun _ => ht
    · exact fun _ => h (.inr hh)
  emptied _ ht _ := fun _ => ht
  reset ht := fun _ => by rw [ht]; rfl

/-- Settles O53: the three forms are read off what the table's evolution keeps, a creation adding an item of a tag not held. -/
theorem tableFormIsKept : Obligations.TableFormIsKept :=
  ⟨fun _ _ => tableInv_keptByTable.blocks.step_keeps, fun _ _ => outcomeListInv_keptByTable.blocks.step_keeps,
    fun _ _ => lineTableInv_keptByTable.blocks.step_keeps⟩

/-- R23 rests on the tags being distinct: the retirement check finds an item by its tag. -/
theorem openItemsInv_keptByTable : KeptByTable fun s => TableInv s ∧ OpenItemsInv s where
  evolves h ht := by
    refine ⟨tableInv_of_evolves h.1 ht, openBeyond_empty.mp ?_⟩
    have ho := ht.opens ∅ h.1.2.1 (openBeyond_empty.mpr h.2)
    rwa [Set.union_empty] at ho
  creation r s hl hfull h := by
    refine ⟨tableInv_keptByTable.creation r hl hfull h.1, openBeyond_empty.mp ?_⟩
    have hplaced := placeItem_tableInv (r := r) hfull h.1
    have hbeyond : OpenBeyond {s.newTag} (placeItem (newItem r s) s) := by
      intro i hi ht
      rw [placeItem_table, List.mem_append, List.mem_singleton] at hi
      rcases hi with hi | rfl
      · exact h.2 i hi
      · exact absurd rfl ht
    have hcreated := (createItem_evolves r s).opens _ hplaced.2.1 hbeyond
    obtain ⟨u, hu, hev⟩ := createItem_eq_retire r s
    intro i hi _
    by_cases ht : i.tag = s.newTag
    · rw [hu] at hi
      exact retireIfDone_opens (hev.tags.nodup hplaced.2.1) i hi ht
    · exact hcreated i hi (by simpa using ht)
  line l s hl h := by
    refine ⟨tableInv_keptByTable.line l hl h.1, ?_⟩
    unfold OpenItemsInv
    rw [setLine_trk]
    exact h.2
  emptied h ht hn := ⟨tableInv_keptByTable.emptied h.1 ht hn, by unfold OpenItemsInv; rw [ht]; simp⟩
  reset ht := ⟨tableInv_keptByTable.reset ht, by unfold OpenItemsInv; rw [ht]; simp [Trk.reset]⟩

/-- Settles O54: whatever closes an entry is followed by its item's retirement check, or removes the item. -/
theorem finishedItemsLeaveTheTable : Obligations.FinishedItemsLeaveTheTable :=
  fun _ _ ht ho hstep => (openItemsInv_keptByTable.blocks.step_keeps ⟨ht, ho⟩ hstep).2

end Sys2Proof.Machine

end

/-! ## Proofs: purges (R24, R27, R92) and O19 -/

section

namespace Sys2Proof

theorem Oct.ext_get {α : Type} {a b : Oct α} (h : ∀ n, a.get n = b.get n) : a = b := by
  cases a
  cases b
  have h0 := h 0
  have h1 := h 1
  have h2 := h 2
  have h3 := h 3
  have h4 := h 4
  have h5 := h 5
  have h6 := h 6
  have h7 := h 7
  simp only [Oct.get] at h0 h1 h2 h3 h4 h5 h6 h7
  subst h0 h1 h2 h3 h4 h5 h6 h7
  rfl

end Sys2Proof

namespace Sys2Proof.Machine

open Sys2Proof

/-! ### The outcome of a station for an item -/

theorem outcome?_of_item? {s : State} {t : Tag} {i : Item} (h : s.item? t = some i) (st : StationId) :
    s.outcome? t st = (i.entry? st).map (·.outcome) := by
  unfold State.outcome?
  rw [h, Option.bind_some]

/-- An entry that alone stands for its station is the one its station names. -/
theorem entry?_of_unique {i : Item} {e : Entry} (he : e ∈ i.entries) (hu : ∀ f ∈ i.entries, f.station = e.station → f = e) :
    i.entry? e.station = some e := by
  cases h : i.entry? e.station with
  | none => exact absurd he fun he => by simpa using List.find?_eq_none.mp h e he
  | some f => rw [hu f (List.mem_of_find?_eq_some h) (by simpa using List.find?_some h)]

theorem eq_of_station {i : Item} (hd : (i.entries.map (·.station)).Nodup) {e f : Entry} (he : e ∈ i.entries)
    (hf : f ∈ i.entries) (h : f.station = e.station) : f = e :=
  List.inj_on_of_nodup_map hd hf he h

/-! ### One entry: O19 -/

section

variable {s : State} {t : Tag} {st : StationId}

theorem purgeEntry_wait (h : s.outcome? t st = some .wait) :
    purgeEntry t s st = setOutcome t st (.missed .purged) s := by
  simp only [purgeEntry, h]

theorem purgeEntry_armed (h : s.outcome? t st = some .armed) :
    purgeEntry t s st =
      setOutcome t st (.missed .purged) (removeRequest (s.lcu.active.stations.get st).output t st s) := by
  simp only [purgeEntry, h]

theorem purgeEntry_active (h : s.outcome? t st = some .active) :
    purgeEntry t s st = setOutcome t st .fired (detachItem (s.lcu.active.stations.get st).output t st s) := by
  simp only [purgeEntry, h]

theorem purgeEntry_final {o : StationOutcome} (h : s.outcome? t st = some o) (ho : o.isFinal = true) :
    purgeEntry t s st = s := by
  cases o with
  | wait | armed | active => exact absurd ho (by decide)
  | fired | passed | skipped | missed _ => simp only [purgeEntry, h]

end

/-- Settles O19: an entry is purged by the outcome that its item's tag and its station name. -/
theorem purgeEntryByOutcome : Obligations.PurgeEntryByOutcome := by
  intro s ht i hi e he hu
  have hout : s.outcome? i.tag e.station = some e.outcome := by
    rw [outcome?_of_item? (item?_of_mem ht.2.1 hi), entry?_of_unique he hu, Option.map_some]
  refine ⟨fun h => ?_, fun h => ?_, fun h => ?_, fun h => purgeEntry_final hout h⟩
  · rw [h] at hout; exact purgeEntry_wait hout
  · rw [h] at hout; exact purgeEntry_armed hout
  · rw [h] at hout; exact purgeEntry_active hout

/-! ### Counters and outputs after some items are closed -/

/-- A station's counters after a purge of these items (R72). -/
def StationCounters.closing (gone : List Item) (st : StationId) (c : StationCounters) : StationCounters :=
  { c with
    missed := c.missed + BitVec.ofNat 32 (countEntries gone st [.wait, .armed])
    fired := c.fired + BitVec.ofNat 32 (countEntries gone st [.active]) }

/-- An output after a purge of these items (R92). -/
def Output.closing (stations : Oct StationConfig) (gone : List Item) (n : OutputId) (o : Output) : Output :=
  let drives (st : StationId) (n : OutputId) : Bool := (stations.get st).output == n
  { o with
    waiting := o.waiting.filter fun r => !(drives r.station n && anyEntry gone r.tag r.station .armed)
    pulse := o.pulse.map fun p =>
      { p with attached := p.attached.filter fun a => !(drives a.2 n && anyEntry gone a.1 a.2 .active) } }

/-- The part with every entry of these items counted, and gone from the outputs. -/
def State.closing (gone : List Item) (s : State) : State :=
  { s with
    trk := { s.trk with stations := Oct.ofFn fun st => (s.trk.stations.get st).closing gone st }
    out := Oct.ofFn fun n => (s.out.get n).closing s.lcu.active.stations gone n }

/-- The state with the tracking table replaced. -/
def State.withTable (l : List Item) (s : State) : State := { s with trk := { s.trk with table := l } }

theorem countEntries_append (a b : List Item) (st : StationId) (os : List StationOutcome) :
    countEntries (a ++ b) st os = countEntries a st os + countEntries b st os := by
  simp [countEntries, List.filter_append]

theorem anyEntry_append (a b : List Item) (t : Tag) (st : StationId) (o : StationOutcome) :
    anyEntry (a ++ b) t st o = (anyEntry a t st o || anyEntry b t st o) := by
  simp [anyEntry]

theorem StationCounters.closing_closing (a b : List Item) (st : StationId) (c : StationCounters) :
    (c.closing a st).closing b st = c.closing (a ++ b) st := by
  simp only [StationCounters.closing, countEntries_append, BitVec.ofNat_add, BitVec.add_assoc]

theorem Output.closing_closing (x : Oct StationConfig) (a b : List Item) (n : OutputId) (o : Output) :
    (o.closing x a n).closing x b n = o.closing x (a ++ b) n := by
  have both (d p q : Bool) : (!(d && q) && !(d && p)) = !(d && (p || q)) := by cases d <;> cases p <;> cases q <;> rfl
  simp only [Output.closing, anyEntry_append, List.filter_filter, Option.map_map, Function.comp_def, both]

/-- Items closed one after another, or together. -/
theorem State.closing_closing (a b : List Item) (s : State) : (s.closing a).closing b = s.closing (a ++ b) := by
  unfold State.closing
  simp only [Oct.get_ofFn, StationCounters.closing_closing, Output.closing_closing]

theorem State.closing_congr {a b : List Item} (hc : ∀ st os, countEntries a st os = countEntries b st os)
    (ha : ∀ t st o, anyEntry a t st o = anyEntry b t st o) (s : State) : s.closing a = s.closing b := by
  simp only [State.closing, StationCounters.closing, Output.closing, hc, ha]

/-- Items without a WAIT, ARMED or ACTIVE entry change no counter and no output. -/
theorem State.closing_of_nothing {gone : List Item} (hm : ∀ st, countEntries gone st [.wait, .armed] = 0)
    (hf : ∀ st, countEntries gone st [.active] = 0) (hw : ∀ t st, anyEntry gone t st .armed = false)
    (hp : ∀ t st, anyEntry gone t st .active = false) (s : State) : s.closing gone = s := by
  have hs : (Oct.ofFn fun st => s.trk.stations.get st) = s.trk.stations := Oct.ext_get fun n => Oct.get_ofFn _ n
  have ho : (Oct.ofFn fun n => s.out.get n) = s.out := Oct.ext_get fun n => Oct.get_ofFn _ n
  simp [State.closing, StationCounters.closing, Output.closing, hm, hf, hw, hp, hs, ho]

theorem State.closing_nil (s : State) : s.closing [] = s :=
  State.closing_of_nothing (fun _ => rfl) (fun _ => rfl) (fun _ _ => rfl) (fun _ _ => rfl) s

theorem State.withTable_withTable (l m : List Item) (s : State) : (s.withTable l).withTable m = s.withTable m := rfl

theorem State.closing_withTable (gone : List Item) (l : List Item) (s : State) :
    (s.withTable l).closing gone = (s.closing gone).withTable l := rfl

end Sys2Proof.Machine

end

/-! ## Proofs: the whole of a purge is `State.afterPurge` -/

section

namespace Sys2Proof.Machine

open Sys2Proof

/-! ### RPT by itself -/

/-- RPT after an EVENT report at a track position (R173). -/
def Rpt.afterEvent (b : ReportBody) (position : Nat) (r : Rpt) : Rpt :=
  if r.queue.length < Config.eventCapacity then
    { r with queue := r.queue ++ [⟨r.nextNumber, r.lost, position, b, false, false⟩], nextNumber := r.nextNumber + 1, lost := 0 }
  else { r with lost := min 255 (r.lost + 1), lostEvents := r.lostEvents + 1 }

/-- The state with RPT replaced. -/
def State.withRpt (r : Rpt) (s : State) : State := { s with rpt := r }

theorem passEvent_eq (b : ReportBody) (s : State) : passEvent b s = s.withRpt (s.rpt.afterEvent b s.mot.position) := by
  unfold passEvent Rpt.afterEvent
  split <;> rfl

theorem passEvent_rpt (b : ReportBody) (s : State) : (passEvent b s).rpt = s.rpt.afterEvent b s.mot.position := by
  rw [passEvent_eq]; rfl

/-- A report neither reads nor changes whether a comparison is due. -/
theorem Rpt.afterEvent_latchDue (b : ReportBody) (position : Nat) (r : Rpt) (due : Bool) :
    { r with latchDue := due }.afterEvent b position = { r.afterEvent b position with latchDue := due } := by
  unfold Rpt.afterEvent
  dsimp only
  split <;> rfl

theorem Rpt.afterEvent_keeps_latchDue (b : ReportBody) (position : Nat) (r : Rpt) :
    (r.afterEvent b position).latchDue = r.latchDue := by
  unfold Rpt.afterEvent
  split <;> rfl

/-- RPT after the ITEM_DONE reports of purged items. -/
def Rpt.afterPurged (cause : PurgeCause) (is : List Item) (position : Nat) (r : Rpt) : Rpt :=
  is.foldl (fun r i => r.afterEvent (.itemDone i.purged (.purged cause)) position) r

theorem passPurged_rpt (cause : PurgeCause) (is : List Item) : ∀ s : State,
    (passPurged cause is s).rpt = s.rpt.afterPurged cause is s.mot.position := by
  unfold passPurged Rpt.afterPurged
  induction is with
  | nil => exact fun s => rfl
  | cons i is ih =>
    intro s
    rw [List.foldl_cons, List.foldl_cons, ih, passEvent_rpt, (passEvent_keeps _ s).mot]

theorem Rpt.afterPurged_latchDue (cause : PurgeCause) (is : List Item) (position : Nat) (due : Bool) : ∀ r : Rpt,
    { r with latchDue := due }.afterPurged cause is position = { r.afterPurged cause is position with latchDue := due } := by
  unfold Rpt.afterPurged
  induction is with
  | nil => exact fun r => rfl
  | cons i is ih => exact fun r => by rw [List.foldl_cons, List.foldl_cons, Rpt.afterEvent_latchDue, ih]

/-! ### The removal of an item -/

/-- The state with a comparison called for, if a change was made (R182). -/
def State.withDue (changed : Bool) (s : State) : State :=
  { s with rpt := { s.rpt with latchDue := s.rpt.latchDue || changed } }

theorem withDue_false (s : State) : s.withDue false = s := by
  unfold State.withDue
  rw [Bool.or_false]

theorem passStatus_if (changed : Bool) (s : State) : (if changed then passStatus s else s) = s.withDue changed := by
  cases changed
  · exact (withDue_false s).symm
  · rw [if_pos rfl]
    unfold State.withDue
    rw [Bool.or_true]
    rfl

/-- A change of the line state, and whether it is one (R131). -/
theorem setLine_eq (l : LineState) (s : State) :
    setLine l s = { s with lcu := { s.lcu with line := l } }.withDue (decide (s.lcu.line ≠ l)) := by
  unfold setLine
  by_cases h : s.lcu.line = l
  · subst h
    simp [withDue_false]
  · simp [h, State.withDue, passStatus]

/-- The table-empty notice: the end of a drain (R23, R24, R134). -/
theorem tableEmptyNotice_eq (s : State) :
    tableEmptyNotice s =
      let drained := decide (s.lcu.line = .draining ∧ s.trk.table = [])
      { s with lcu := { s.lcu with line := if drained then .setup else s.lcu.line } }.withDue drained := by
  unfold tableEmptyNotice
  by_cases h : s.lcu.line = .draining ∧ s.trk.table = []
  · obtain ⟨hl, ht⟩ := h
    simp [hl, ht, setLine_eq]
  · have h' : ¬ (s.trk.table.isEmpty && s.lcu.line == .draining) = true := by
      simpa [and_comm] using h
    simp only [h, h', decide_false, if_false, withDue_false, Bool.false_eq_true]

/-- All that the removal of an item does (R3, R23, R24, R27, R29, R134). -/
theorem removeItem_eq (i : Item) (d : Disposition) (s : State) :
    removeItem i d s =
      let left := s.trk.table.filter fun j => j.tag != i.tag
      let drained := decide (s.lcu.line = .draining ∧ left = [])
      { s with
        lcu := { s.lcu with line := if drained then .setup else s.lcu.line }
        trk := { s.trk with table := left }
        rpt := { s.rpt.afterEvent (.itemDone i d) s.mot.position with
          latchDue := s.rpt.latchDue || decide (s.trk.table.length = 128) || drained } } := by
  have hfull : s.tableFull = decide (s.trk.table.length = 128) := rfl
  simp only [removeItem, passStatus_if, tableEmptyNotice_eq, passEvent_eq, hfull, State.withDue, State.withRpt,
    Rpt.afterEvent_keeps_latchDue]

/-! ### The entries of one item -/

theorem setOutcome_item? (t : Tag) (st : StationId) (o : StationOutcome) (s : State) :
    (setOutcome t st o s).item? t = (s.item? t).map fun i => i.mapEntry st fun e => { e with outcome := o } := by
  have hfind (f : Item → Item) (hf : ∀ i, (f i).tag = i.tag) (l : List Item) :
      (l.map fun i => if i.tag = t then f i else i).find? (fun i => i.tag == t) = (l.find? fun i => i.tag == t).map f := by
    induction l with
    | nil => rfl
    | cons i l ih =>
      by_cases h : i.tag = t
      · simp [h, hf]
      · simp [h, ih]
  exact hfind (fun i => i.mapEntry st fun e => { e with outcome := o }) (fun _ => rfl) s.trk.table

/-- An item with one entry purged. -/
def Item.purgedAt (i : Item) (st : StationId) : Item := i.mapEntry st fun e => { e with outcome := e.outcome.purged }

theorem purged_of_final {o : StationOutcome} (h : o.isFinal = true) : o.purged = o := by
  cases o with
  | wait | armed | active => exact absurd h (by decide)
  | fired | passed | skipped | missed _ => rfl

/-- The purged entry of an item, as its own outcome says (R24). -/
theorem purgedAt_of_entry {i : Item} (hd : (i.entries.map (·.station)).Nodup) {e : Entry} (he : e ∈ i.entries) :
    i.purgedAt e.station = i.mapEntry e.station fun f => { f with outcome := e.outcome.purged } := by
  unfold Item.purgedAt Item.mapEntry
  congr 1
  refine List.map_congr_left fun f hf => ?_
  split
  · next h => rw [eq_of_station hd he hf h]
  · rfl

theorem purgedAt_of_final {i : Item} (hd : (i.entries.map (·.station)).Nodup) {e : Entry} (he : e ∈ i.entries)
    (hf : e.outcome.isFinal = true) : i.purgedAt e.station = i := by
  have hmap : i.entries.map (fun f => if f.station = e.station then { f with outcome := f.outcome.purged } else f)
      = i.entries := by
    refine (List.map_congr_left fun f hfi => ?_).trans (List.map_id _)
    split
    · next h => rw [eq_of_station hd he hfi h, purged_of_final hf]; rfl
    · rfl
  unfold Item.purgedAt Item.mapEntry
  rw [hmap]

theorem purgedAt_stations (i : Item) (st : StationId) :
    (i.purgedAt st).entries.map (·.station) = i.entries.map (·.station) :=
  congrArg Prod.snd (mapEntry_form i st (f := fun e => { e with outcome := e.outcome.purged }) fun _ => rfl)

theorem mem_purgedAt_of_ne {i : Item} {st : StationId} {e : Entry} (he : e ∈ i.entries) (hne : e.station ≠ st) :
    e ∈ (i.purgedAt st).entries :=
  List.mem_map.mpr ⟨e, he, if_neg hne⟩

/-- The counts of one entry alone. -/
theorem countEntries_entry (i : Item) (e : Entry) (st : StationId) (os : List StationOutcome) :
    countEntries [{ i with entries := [e] }] st os = if e.station = st ∧ e.outcome ∈ os then 1 else 0 := by
  by_cases h1 : e.station = st <;> by_cases h2 : e.outcome ∈ os <;> simp [countEntries, h1, h2]

theorem anyEntry_entry (i : Item) (e : Entry) (t : Tag) (st : StationId) (o : StationOutcome) :
    anyEntry [{ i with entries := [e] }] t st o = (i.tag == t && (e.station == st && e.outcome == o)) := by
  simp [anyEntry]

/-- The entry's station counts it alone. -/
theorem closing_entry_stations (i : Item) {e : Entry} (ho : e.outcome.isFinal = false) (s : State) :
    (s.closing [{ i with entries := [e] }]).trk.stations =
      s.trk.stations.set e.station ((s.trk.stations.get e.station).count e.outcome.purged) := by
  refine Oct.ext_get fun st => ?_
  rw [State.closing, Oct.get_ofFn, Oct.get_set]
  by_cases hst : st = e.station
  · subst hst
    cases h : e.outcome with
    | wait | armed | active =>
      simp [StationCounters.closing, countEntries_entry, StationOutcome.purged, StationCounters.count, h]
    | fired | passed | skipped | missed _ => simp [h, StationOutcome.isFinal] at ho
  · simp [StationCounters.closing, countEntries_entry, hst, Ne.symm hst]

/-- An entry stands at the output of its station alone. -/
theorem drives_entry (x : Oct StationConfig) (i : Item) (e : Entry) (n : OutputId) (t : Tag) (st : StationId)
    (o : StationOutcome) :
    ((x.get st).output == n && anyEntry [{ i with entries := [e] }] t st o)
      = ((x.get e.station).output == n && (e.outcome == o && (t == i.tag && st == e.station))) := by
  rw [anyEntry_entry, Bool.beq_comm (a := t), Bool.beq_comm (a := st) (b := e.station)]
  by_cases hs : e.station = st
  · subst hs
    rw [beq_self_eq_true, Bool.true_and, Bool.and_true, Bool.and_comm (i.tag == t)]
  · rw [beq_eq_false_iff_ne.mpr hs]
    simp only [Bool.false_and, Bool.and_false]

/-- The entry's output alone lets it go: its pending entry, or its attached pair. -/
theorem closing_entry_out (i : Item) (e : Entry) (s : State) :
    (s.closing [{ i with entries := [e] }]).out =
      s.out.set (s.lcu.active.stations.get e.station).output
        { s.out.get (s.lcu.active.stations.get e.station).output with
          waiting := (s.out.get (s.lcu.active.stations.get e.station).output).waiting.filter fun q =>
            !(e.outcome == .armed && (q.tag == i.tag && q.station == e.station))
          pulse := (s.out.get (s.lcu.active.stations.get e.station).output).pulse.map fun p =>
            { p with attached := p.attached.filter fun a =>
              !(e.outcome == .active && (a.1 == i.tag && a.2 == e.station)) } } := by
  refine Oct.ext_get fun m => ?_
  rw [State.closing, Oct.get_ofFn, Oct.get_set]
  split
  · next h => subst h; simp only [Output.closing, drives_entry, beq_self_eq_true, Bool.true_and]
  · next h =>
    have hne : ((s.lcu.active.stations.get e.station).output == m) = false := by simpa using Ne.symm h
    simp [Output.closing, drives_entry, hne]

theorem closing_entry_out_wait (i : Item) {e : Entry} (ho : e.outcome = .wait) (s : State) :
    (s.closing [{ i with entries := [e] }]).out = s.out := by
  have h1 : (e.outcome == .armed) = false := by rw [ho]; rfl
  have h2 : (e.outcome == .active) = false := by rw [ho]; rfl
  rw [closing_entry_out]
  simp only [h1, h2, Bool.false_and, Bool.not_false, List.filter_true, Option.map_id']
  exact s.out.set_get_self _

theorem closing_entry_out_armed (i : Item) {e : Entry} (ho : e.outcome = .armed) (s : State) :
    (s.closing [{ i with entries := [e] }]).out =
      (removeRequest (s.lcu.active.stations.get e.station).output i.tag e.station s).out := by
  have h1 : (e.outcome == .armed) = true := by rw [ho]; rfl
  have h2 : (e.outcome == .active) = false := by rw [ho]; rfl
  simp [closing_entry_out, h1, h2, removeRequest]

theorem closing_entry_out_active (i : Item) {e : Entry} (ho : e.outcome = .active) (s : State) :
    (s.closing [{ i with entries := [e] }]).out =
      (detachItem (s.lcu.active.stations.get e.station).output i.tag e.station s).out := by
  have h1 : (e.outcome == .armed) = false := by rw [ho]; rfl
  have h2 : (e.outcome == .active) = true := by rw [ho]; rfl
  simp [closing_entry_out, h1, h2, detachItem]

/-- What a purge of one entry does beside the table: the station's counter, and the output's part in it (R24, R72, R92). -/
theorem purgeEntry_closing {s : State} {i : Item} {e : Entry} (h : s.outcome? i.tag e.station = some e.outcome) :
    ∃ l, purgeEntry i.tag s e.station = (s.closing [{ i with entries := [e] }]).withTable l := by
  have hsplit : s.closing [{ i with entries := [e] }] = { s with
      trk := { s.trk with stations := (s.closing [{ i with entries := [e] }]).trk.stations }
      out := (s.closing [{ i with entries := [e] }]).out } := rfl
  by_cases hf : e.outcome.isFinal = true
  · refine ⟨s.trk.table, ?_⟩
    have hw : e.outcome ≠ .wait := fun h => by simp [h, StationOutcome.isFinal] at hf
    have ha : e.outcome ≠ .armed := fun h => by simp [h, StationOutcome.isFinal] at hf
    have hp : e.outcome ≠ .active := fun h => by simp [h, StationOutcome.isFinal] at hf
    rw [purgeEntry_final h hf, State.closing_of_nothing]
    · rfl
    all_goals simp [countEntries_entry, anyEntry_entry, hw, ha, hp]
  · rw [hsplit, closing_entry_stations i (Bool.eq_false_iff.mpr hf) s]
    cases ho : e.outcome with
    | wait => rw [purgeEntry_wait (h.trans (congrArg some ho)), closing_entry_out_wait i ho]; exact ⟨_, rfl⟩
    | armed => rw [purgeEntry_armed (h.trans (congrArg some ho)), closing_entry_out_armed i ho]; exact ⟨_, rfl⟩
    | active => rw [purgeEntry_active (h.trans (congrArg some ho)), closing_entry_out_active i ho]; exact ⟨_, rfl⟩
    | fired | passed | skipped | missed _ => exact absurd (by rw [ho]; rfl) hf

/-- What a purge of one entry does to its item. -/
theorem purgeEntry_item? {s : State} {t : Tag} {i : Item} (h : s.item? t = some i)
    (hd : (i.entries.map (·.station)).Nodup) {e : Entry} (he : e ∈ i.entries) :
    (purgeEntry t s e.station).item? t = some (i.purgedAt e.station) := by
  have hout : s.outcome? t e.station = some e.outcome := by
    rw [outcome?_of_item? h, entry?_of_unique he fun f hf => eq_of_station hd he hf, Option.map_some]
  have hset (o : StationOutcome) (u : State) (hu : u.item? t = some i) (ho : e.outcome.purged = o) :
      (setOutcome t e.station o u).item? t = some (i.purgedAt e.station) := by
    rw [setOutcome_item?, hu, purgedAt_of_entry hd he, ho, Option.map_some]
  cases ho : e.outcome with
  | wait => rw [purgeEntry_wait (hout.trans (congrArg some ho))]; exact hset _ s h (by rw [ho]; rfl)
  | armed => rw [purgeEntry_armed (hout.trans (congrArg some ho))]; exact hset _ _ h (by rw [ho]; rfl)
  | active => rw [purgeEntry_active (hout.trans (congrArg some ho))]; exact hset _ _ h (by rw [ho]; rfl)
  | fired | passed | skipped | missed _ =>
    have hf : e.outcome.isFinal = true := by rw [ho]; rfl
    rw [purgeEntry_final hout hf, h, purgedAt_of_final hd he hf]

/-! ### One item -/

/-- Some entries of an item purged one after another: beside the table, they are counted and let go together. -/
theorem purgeEntries_closing (i : Item) (es : List Entry) : ∀ (s : State) (j : Item), s.item? i.tag = some j →
    (j.entries.map (·.station)).Nodup → (∀ e ∈ es, e ∈ j.entries) → (es.map (·.station)).Nodup →
    ∃ l, (es.map (·.station)).foldl (purgeEntry i.tag) s = (s.closing [{ i with entries := es }]).withTable l := by
  induction es with
  | nil =>
    intro s j _ _ _ _
    refine ⟨s.trk.table, ?_⟩
    rw [State.closing_of_nothing (fun _ => rfl) (fun _ => rfl)]
    · rfl
    all_goals simp [anyEntry]
  | cons e es ih =>
    intro s j hj hd hes hnodup
    have he := hes e (List.mem_cons_self ..)
    obtain ⟨hne, hnodup'⟩ := List.nodup_cons.mp hnodup
    have hout : s.outcome? i.tag e.station = some e.outcome := by
      rw [outcome?_of_item? hj, entry?_of_unique he fun f hf => eq_of_station hd he hf, Option.map_some]
    have hrest : ∀ f ∈ es, f ∈ (j.purgedAt e.station).entries := fun f hf =>
      mem_purgedAt_of_ne (hes f (List.mem_cons_of_mem e hf)) fun h => hne (List.mem_map.mpr ⟨f, hf, h⟩)
    obtain ⟨l, hl⟩ := purgeEntry_closing (i := i) hout
    obtain ⟨m, hm⟩ := ih (purgeEntry i.tag s e.station) (j.purgedAt e.station) (purgeEntry_item? hj hd he)
      (by rw [purgedAt_stations]; exact hd) hrest hnodup'
    refine ⟨m, ?_⟩
    rw [List.map_cons, List.foldl_cons, hm, hl, State.closing_withTable, State.closing_closing, State.withTable_withTable]
    refine congrArg (State.withTable m) (State.closing_congr (fun st os => ?_) (fun t st o => ?_) s)
    · simp [countEntries, List.filter_cons]
    · simp [anyEntry, Bool.and_or_distrib_left]

/-- Some entries of an item purged one after another: what they make of the item. -/
theorem purgeEntries_item? (t : Tag) (es : List Entry) : ∀ (s : State) (j : Item), s.item? t = some j →
    (j.entries.map (·.station)).Nodup → (∀ e ∈ es, e ∈ j.entries) → (es.map (·.station)).Nodup →
    ((es.map (·.station)).foldl (purgeEntry t) s).item? t = some { j with entries := j.entries.map fun e =>
      if e.station ∈ (es.map (·.station)) then { e with outcome := e.outcome.purged } else e } := by
  induction es with
  | nil =>
    intro s j hj _ _ _
    simpa using hj
  | cons e es ih =>
    intro s j hj hd hes hnodup
    have he := hes e (List.mem_cons_self ..)
    obtain ⟨hne, hnodup'⟩ := List.nodup_cons.mp hnodup
    have hrest : ∀ f ∈ es, f ∈ (j.purgedAt e.station).entries := fun f hf =>
      mem_purgedAt_of_ne (hes f (List.mem_cons_of_mem e hf)) fun h => hne (List.mem_map.mpr ⟨f, hf, h⟩)
    rw [List.map_cons, List.foldl_cons, ih _ _ (purgeEntry_item? hj hd he) (by rw [purgedAt_stations]; exact hd) hrest hnodup']
    unfold Item.purgedAt Item.mapEntry
    dsimp only
    rw [List.map_map]
    congr 2
    refine List.map_congr_left fun f _ => ?_
    have hother : ∀ x ∈ es, x.station ≠ e.station := fun x hx h => hne (List.mem_map.mpr ⟨x, hx, h⟩)
    by_cases hf : f.station = e.station
    · simpa [hf] using fun x hx h => absurd h (hother x hx)
    · simp [hf]

/-- Every entry of an item purged makes the item that its ITEM_DONE reports (R24, R27). -/
theorem purgeEntries_item?_all {s : State} {i : Item} (h : s.item? i.tag = some i)
    (hd : (i.entries.map (·.station)).Nodup) :
    ((i.entries.map (·.station)).foldl (purgeEntry i.tag) s).item? i.tag = some i.purged := by
  rw [purgeEntries_item? i.tag i.entries s i h hd (fun _ he => he) hd]
  unfold Item.purged
  congr 2
  exact List.map_congr_left fun e he => if_pos (List.mem_map_of_mem he)

/-- What is left of the table once these items are gone, by their tags. -/
def State.leftBy (gone : List Item) (s : State) : List Item := s.trk.table.filter fun j => gone.all fun i => j.tag != i.tag

/-- Whether the going of these items ends a drain (R134). -/
def State.drainedBy (gone : List Item) (s : State) : Bool :=
  decide (s.lcu.line = .draining) && (!gone.isEmpty && decide (s.leftBy gone = []))

/-- Whether the going of these items makes a full table full no more (R29). -/
def State.unfilledBy (gone : List Item) (s : State) : Bool :=
  !gone.isEmpty && decide (s.trk.table.length = 128)

/-- The part after a purge of some items, one after another in this order (R24, R27, R29, R72, R92, R134). -/
def State.purgedOf (cause : PurgeCause) (gone : List Item) (s : State) : State :=
  { s.closing gone with
    lcu := { s.lcu with line := if s.drainedBy gone then .setup else s.lcu.line }
    trk := { (s.closing gone).trk with table := s.leftBy gone }
    rpt := { s.rpt.afterPurged cause gone s.mot.position with
      latchDue := s.rpt.latchDue || s.unfilledBy gone || s.drainedBy gone } }

theorem setOutcome_length (t : Tag) (st : StationId) (o : StationOutcome) (s : State) :
    (setOutcome t st o s).trk.table.length = s.trk.table.length := List.length_map _

theorem purgeEntry_length (t : Tag) (s : State) (st : StationId) :
    (purgeEntry t s st).trk.table.length = s.trk.table.length := by
  unfold purgeEntry
  dsimp only
  split
  · exact setOutcome_length t st _ s
  · exact setOutcome_length t st _ (removeRequest _ t st s)
  · exact setOutcome_length t st _ (detachItem _ t st s)
  · rfl

/-- The purge of one item of the table (R24). -/
theorem purgeItem_eq (cause : PurgeCause) {s : State} {i : Item} (h : s.item? i.tag = some i)
    (hd : (i.entries.map (·.station)).Nodup) : purgeItem cause s i = s.purgedOf cause [i] := by
  obtain ⟨l, hl⟩ := purgeEntries_closing i i.entries s i h hd (fun _ he => he) hd
  have hitem := purgeEntries_item?_all h hd
  have hleft := purgeEntries_others i.tag (i.entries.map (·.station)) s
  have hlen := foldl_keeps (fun u : State => u.trk.table.length) _ (purgeEntry_length i.tag) (i.entries.map (·.station)) s
  have hleftBy : s.leftBy [i] = s.trk.table.filter fun j => j.tag != i.tag := by simp [State.leftBy]
  unfold purgeItem
  dsimp only at hlen ⊢
  rw [hitem]
  dsimp only
  rw [removeItem_eq, Item.purged_tag]
  dsimp only
  rw [hleft, hlen, hl]
  simp [State.purgedOf, State.withTable, State.closing, Rpt.afterPurged, State.drainedBy, State.unfilledBy, hleftBy]

end Sys2Proof.Machine

end

/-! ## Proofs: purges of several items -/

section

namespace Sys2Proof.Machine

open Sys2Proof

/-! ### Items one after another -/

/-- Two states that agree in the fields TRK, OUT and RPT change, and in the others, are one. -/
theorem KeepsBeyondTracking.eq {a b : State} (h : KeepsBeyondTracking a b) (hline : b.lcu.line = a.lcu.line)
    (htrk : b.trk = a.trk) (hout : b.out = a.out) (hrpt : b.rpt = a.rpt) : b = a := by
  obtain ⟨hpending, hnow, hpins, hstaged, hactive, hmot, hdet, hrequests, hlnk, hcmd, hdrawn⟩ := h
  have hlcu : b.lcu = a.lcu := by
    cases hb : b.lcu
    cases ha : a.lcu
    simp_all
  cases a
  cases b
  simp_all

theorem purgedOf_nil (cause : PurgeCause) (s : State) : s.purgedOf cause [] = s := by
  simp [State.purgedOf, State.closing_nil, Rpt.afterPurged, State.drainedBy, State.unfilledBy, State.leftBy]

section

variable {s : State} {i : Item} {is : List Item}

theorem leftBy_cons (cause : PurgeCause) : (s.purgedOf cause [i]).leftBy is = s.leftBy (i :: is) := by
  show (s.leftBy [i]).filter _ = _
  unfold State.leftBy
  rw [List.filter_filter]
  refine congrArg₂ _ (funext fun k => ?_) rfl
  rw [List.all_cons, List.all_cons, List.all_nil, Bool.and_true, Bool.and_comm]

/-- Once an item of the table is gone the table is not full. -/
theorem unfilledBy_rest (cause : PurgeCause) (hi : i ∈ s.trk.table) (hlen : s.trk.table.length ≤ 128) :
    (s.purgedOf cause [i]).unfilledBy is = false := by
  have hlt : (s.leftBy [i]).length < s.trk.table.length :=
    List.length_filter_lt_length_iff_exists.mpr ⟨i, hi, by simp⟩
  have hne : decide ((s.leftBy [i]).length = 128) = false := by
    rw [decide_eq_false_iff_not]
    omega
  show (!is.isEmpty && decide ((s.leftBy [i]).length = 128)) = false
  rw [hne, Bool.and_false]

/-- Items of other tags stand where an item has gone, so the drain does not end before the last of them goes. -/
theorem drainedBy_first (his : ∀ j ∈ is, j ∈ s.trk.table) (hd : ((i :: is).map (·.tag)).Nodup) :
    s.drainedBy [i] = (is.isEmpty && s.drainedBy (i :: is)) := by
  cases is with
  | nil => simp
  | cons j js =>
    have hne : j.tag ≠ i.tag := fun h => (List.nodup_cons.mp hd).1 (by simp [h])
    have hj : j ∈ s.leftBy [i] := List.mem_filter.mpr ⟨his j (List.mem_cons_self ..), by simpa using hne⟩
    have hleft : s.leftBy [i] ≠ [] := List.ne_nil_of_mem hj
    simp [State.drainedBy, hleft]

theorem drainedBy_rest (cause : PurgeCause) (his : ∀ j ∈ is, j ∈ s.trk.table) (hd : ((i :: is).map (·.tag)).Nodup) :
    (s.purgedOf cause [i]).drainedBy is = (!is.isEmpty && s.drainedBy (i :: is)) := by
  unfold State.drainedBy
  rw [leftBy_cons]
  show (decide ((if s.drainedBy [i] then LineState.setup else s.lcu.line) = .draining) && _) = _
  rw [drainedBy_first his hd]
  cases is with
  | nil => simp
  | cons j js => simp

/-- The first item purged, and then the others, or all of them (R24). -/
theorem purgedOf_cons (cause : PurgeCause) (hi : i ∈ s.trk.table) (his : ∀ j ∈ is, j ∈ s.trk.table)
    (hd : ((i :: is).map (·.tag)).Nodup) (hlen : s.trk.table.length ≤ 128) :
    (s.purgedOf cause [i]).purgedOf cause is = s.purgedOf cause (i :: is) := by
  have hclose : (s.closing [i]).closing is = s.closing (i :: is) := State.closing_closing [i] is s
  have hdue : s.unfilledBy [i] = s.unfilledBy (i :: is) := rfl
  refine KeepsBeyondTracking.eq ⟨rfl, rfl, rfl, rfl, rfl, rfl, rfl, rfl, rfl, rfl, rfl⟩ ?_ ?_ ?_ ?_
  · show (if (s.purgedOf cause [i]).drainedBy is then .setup else if s.drainedBy [i] then .setup else s.lcu.line) =
      if s.drainedBy (i :: is) then LineState.setup else s.lcu.line
    rw [drainedBy_rest cause his hd, drainedBy_first his hd]
    cases is.isEmpty <;> cases s.drainedBy (i :: is) <;> rfl
  · show { ((s.closing [i]).closing is).trk with table := (s.purgedOf cause [i]).leftBy is } =
      { (s.closing (i :: is)).trk with table := s.leftBy (i :: is) }
    rw [hclose, leftBy_cons]
  · show ((s.closing [i]).closing is).out = (s.closing (i :: is)).out
    rw [hclose]
  · have hrpt : (s.purgedOf cause [i]).rpt.afterPurged cause is s.mot.position =
        { s.rpt.afterPurged cause (i :: is) s.mot.position with
          latchDue := s.rpt.latchDue || s.unfilledBy [i] || s.drainedBy [i] } :=
      Rpt.afterPurged_latchDue cause is s.mot.position _ _
    have hall : (s.rpt.latchDue || s.unfilledBy [i] || s.drainedBy [i] || (s.purgedOf cause [i]).unfilledBy is
        || (s.purgedOf cause [i]).drainedBy is)
        = (s.rpt.latchDue || s.unfilledBy (i :: is) || s.drainedBy (i :: is)) := by
      rw [unfilledBy_rest cause hi hlen, drainedBy_rest cause his hd, drainedBy_first his hd, hdue]
      cases is.isEmpty <;> simp
    show { (s.purgedOf cause [i]).rpt.afterPurged cause is s.mot.position with
        latchDue := s.rpt.latchDue || s.unfilledBy [i] || s.drainedBy [i] || (s.purgedOf cause [i]).unfilledBy is
          || (s.purgedOf cause [i]).drainedBy is } = _
    rw [hrpt, hall]
    rfl

end

/-- The items of a list purged one after another (R24). -/
theorem foldl_purgeItem_eq (cause : PurgeCause) (is : List Item) : ∀ s : State, (∀ i ∈ is, i ∈ s.trk.table) →
    (is.map (·.tag)).Nodup → TableInv s → OutcomeListInv s → is.foldl (purgeItem cause) s = s.purgedOf cause is := by
  induction is with
  | nil => exact fun s _ _ _ _ => (purgedOf_nil cause s).symm
  | cons i is ih =>
    intro s his hd ht ho
    have hi := his i (List.mem_cons_self ..)
    have hrest : ∀ j ∈ is, j ∈ s.trk.table := fun j hj => his j (List.mem_cons_of_mem i hj)
    obtain ⟨hne, hd'⟩ := List.nodup_cons.mp hd
    have hfirst : purgeItem cause s i = s.purgedOf cause [i] :=
      purgeItem_eq cause (item?_of_mem ht.2.1 hi) (ho i hi).nodup
    have hstep := purgeItem_evolves cause s i
    rw [List.foldl_cons, ih (purgeItem cause s i) ?_ hd' (tableInv_of_evolves ht hstep)
      (outcomeListInv_keptByTable.evolves ho hstep), hfirst]
    · exact purgedOf_cons cause hi hrest hd ht.1
    · intro j hj
      rw [purgeItem_table]
      refine List.mem_filter.mpr ⟨hrest j hj, ?_⟩
      simpa using fun h : j.tag = i.tag => hne (List.mem_map.mpr ⟨j, hj, h⟩)

/-! ### A purge of a scope -/

theorem not_inScope (scope : Option LaneId) (i : Item) : (scope.any fun n => i.lane != n) = !inScope scope i := by
  cases scope <;> rfl

/-- Where no two items have one tag, the items beyond a scope are those of other tags than the items in it. -/
theorem leftBy_scope {s : State} (hd : (s.trk.table.map (·.tag)).Nodup) (scope : Option LaneId) :
    s.leftBy (s.trk.table.filter (inScope scope)) = s.trk.table.filter fun i => scope.any fun n => i.lane != n := by
  refine List.filter_congr fun j hj => ?_
  rw [not_inScope]
  cases hs : inScope scope j with
  | true =>
    rw [Bool.not_true, ← Bool.not_eq_true, List.all_eq_true]
    intro h
    simpa using h j (List.mem_filter.mpr ⟨hj, hs⟩)
  | false =>
    rw [Bool.not_false, List.all_eq_true]
    intro i hi
    obtain ⟨hi, his⟩ := List.mem_filter.mp hi
    rw [bne_iff_ne]
    intro h
    rw [← List.inj_on_of_nodup_map hd hj hi h, hs] at his
    exact Bool.false_ne_true his

/-- A purge leaves what `State.afterPurge` says, of the table as R3, R5 and R8 have it. -/
theorem purgeItems_eq (cause : PurgeCause) (scope : Option LaneId) {s : State} (ht : TableInv s) (ho : OutcomeListInv s) :
    purgeItems cause scope s = s.afterPurge cause scope := by
  have hleft := leftBy_scope ht.2.1 scope
  have hdrained : s.drainedBy (s.trk.table.filter (inScope scope)) =
      decide (s.lcu.line = .draining ∧ s.trk.table.filter (inScope scope) ≠ []
        ∧ (s.trk.table.filter fun i => scope.any fun n => i.lane != n) = []) := by
    rw [← hleft]
    cases s.trk.table.filter (inScope scope) <;> simp [State.drainedBy]
  have hunfilled : s.unfilledBy (s.trk.table.filter (inScope scope)) =
      decide (s.trk.table.filter (inScope scope) ≠ [] ∧ s.trk.table.length = 128) := by
    unfold State.unfilledBy
    cases s.trk.table.filter (inScope scope) <;> simp
  unfold purgeItems
  rw [foldl_purgeItem_eq cause _ s (fun i hi => (List.mem_filter.mp hi).1) (ht.2.1.sublist (List.filter_sublist.map _)) ht ho]
  refine KeepsBeyondTracking.eq ⟨rfl, rfl, rfl, rfl, rfl, rfl, rfl, rfl, rfl, rfl, rfl⟩ ?_ ?_ rfl ?_
  · show (if s.drainedBy _ then LineState.setup else s.lcu.line) = _
    rw [hdrained]
    rfl
  · have htrk (gone : List Item) :
        (s.purgedOf cause gone).trk = { (s.closing gone).trk with table := s.leftBy gone } := rfl
    rw [htrk, hleft]
    rfl
  · have hpassed := passPurged_rpt cause (s.trk.table.filter (inScope scope)) s
    have hrpt (gone : List Item) : (s.purgedOf cause gone).rpt = { s.rpt.afterPurged cause gone s.mot.position with
        latchDue := s.rpt.latchDue || s.unfilledBy gone || s.drainedBy gone } := rfl
    rw [hrpt, hunfilled, hdrained, ← hpassed]
    rfl

/-- A purge reads and changes nothing of LNK. -/
theorem afterPurge_withLnk (cause : PurgeCause) (scope : Option LaneId) (l : Lnk) (s : State) :
    (s.withLnk l).afterPurge cause scope = (s.afterPurge cause scope).withLnk l := by
  have hpassed : (passPurged cause (s.trk.table.filter (inScope scope)) (s.withLnk l)).rpt
      = (passPurged cause (s.trk.table.filter (inScope scope)) s).rpt := by
    rw [passPurged_rpt, passPurged_rpt]
    rfl
  refine KeepsBeyondTracking.eq ⟨rfl, rfl, rfl, rfl, rfl, rfl, rfl, rfl, rfl, rfl, rfl⟩ rfl rfl rfl ?_
  exact congrArg (fun r : Rpt => { r with latchDue := (s.afterPurge cause scope).rpt.latchDue }) hpassed

/-! ### What a purge sheds at the outputs -/

/-- An output that only let pending entries and attached pairs go (R92). -/
structure Output.Shed (a b : Output) : Prop where
  rest : b = { a with waiting := b.waiting, pulse := b.pulse }
  waiting : b.waiting.Sublist a.waiting
  pulse : b.pulse.map (fun p => (p.endPosition, p.endTime)) = a.pulse.map fun p => (p.endPosition, p.endTime)

theorem Output.Shed.refl (a : Output) : Output.Shed a a := ⟨rfl, .refl _, rfl⟩

theorem Output.Shed.trans {a b c : Output} (h : Output.Shed a b) (k : Output.Shed b c) : Output.Shed a c where
  rest := by rw [k.rest, h.rest]
  waiting := k.waiting.trans h.waiting
  pulse := k.pulse.trans h.pulse

/-- Every output of a state only let entries and pairs go. -/
def OutputsShed (s t : State) : Prop := ∀ n, Output.Shed (s.out.get n) (t.out.get n)

theorem OutputsShed.of_out {s t : State} (h : t.out = s.out) : OutputsShed s t := fun n => by rw [h]; exact .refl _

theorem OutputsShed.trans {a b c : State} (h : OutputsShed a b) (k : OutputsShed b c) : OutputsShed a c :=
  fun n => (h n).trans (k n)

theorem OutputsShed.foldl {α : Type} (f : State → α → State) (h : ∀ s a, OutputsShed s (f s a)) (l : List α) :
    ∀ s, OutputsShed s (l.foldl f s) := by
  induction l with
  | nil => exact fun s => .of_out rfl
  | cons a l ih => exact fun s => (h s a).trans (ih (f s a))

theorem mapOutput_shed (n : OutputId) {f : Output → Output} (hf : ∀ o, Output.Shed o (f o)) (s : State) :
    OutputsShed s (mapOutput n f s) := by
  intro m
  rw [mapOutput_get]
  split
  · next h => rw [h]; exact hf _
  · exact .refl _

theorem removeRequest_shed (n : OutputId) (t : Tag) (st : StationId) (s : State) : OutputsShed s (removeRequest n t st s) :=
  mapOutput_shed n (f := fun o => { o with waiting := o.waiting.filter fun q => !(q.tag == t && q.station == st) })
    (fun _ => ⟨rfl, List.filter_sublist, rfl⟩) s

theorem detachItem_shed (n : OutputId) (t : Tag) (st : StationId) (s : State) : OutputsShed s (detachItem n t st s) := by
  refine mapOutput_shed n (f := fun o => { o with
    pulse := o.pulse.map fun p => { p with attached := p.attached.filter fun a => !(a.1 == t && a.2 == st) } }) ?_ s
  exact fun o => ⟨rfl, .refl _, by cases h : o.pulse <;> simp⟩

theorem purgeEntry_shed (t : Tag) (s : State) (st : StationId) : OutputsShed s (purgeEntry t s st) := by
  unfold purgeEntry
  dsimp only
  split
  · exact .of_out rfl
  · exact (removeRequest_shed _ t st s).trans (.of_out rfl)
  · exact (detachItem_shed _ t st s).trans (.of_out rfl)
  · exact .of_out rfl

theorem purgeItem_shed (c : PurgeCause) (s : State) (i : Item) : OutputsShed s (purgeItem c s i) := by
  have h := OutputsShed.foldl _ (purgeEntry_shed i.tag) (i.entries.map (·.station)) s
  unfold purgeItem
  dsimp only
  split
  · exact h
  · exact h.trans (.of_out (removeItem_out _ _ _))

theorem purgeItems_shed (c : PurgeCause) (scope : Option LaneId) (s : State) : OutputsShed s (purgeItems c scope s) :=
  .foldl _ (purgeItem_shed c) _ s

end Sys2Proof.Machine

end

/-! ## Proofs: O17 and O18 -/

section

namespace Sys2Proof.Machine

open Sys2Proof

/-! ### A purge as a taken command -/

theorem taking_eq (s : State) (q : Byte) : s.taking q = s.withLnk { s.lnk.counted with lastTaken := some q } := rfl

/-- What the end of the event leaves of a purge as a taken command, its reply aside. -/
theorem concluded_purge {s u : State} {q : Byte} (l : Lnk) (hk : KeepsBeyondTracking (s.taking q) u)
    (hc : KeepsCounts (s.taking q) u) (ho : OutputsShed (s.taking q) u) :
    (concluded { u with lnk := l }).lnk = l
      ∧ KeepsBeyondTracking { s with lnk := (concluded { u with lnk := l }).lnk } (concluded { u with lnk := l })
      ∧ KeepsCounts s (concluded { u with lnk := l })
      ∧ ∀ n, (concluded { u with lnk := l }).out.get n = { s.out.get n with
          waiting := ((concluded { u with lnk := l }).out.get n).waiting
          pulse := ((concluded { u with lnk := l }).out.get n).pulse }
        ∧ ((concluded { u with lnk := l }).out.get n).waiting.Sublist (s.out.get n).waiting
        ∧ ((concluded { u with lnk := l }).out.get n).pulse.map (fun p => (p.endPosition, p.endTime))
          = (s.out.get n).pulse.map (fun p => (p.endPosition, p.endTime)) := by
  have h := concluded_keeps { u with lnk := l }
  have hkeeps : KeepsBeyondTracking { s with lnk := l } { u with lnk := l } :=
    ⟨hk.pending, hk.now, hk.pins, hk.staged, hk.active, hk.mot, hk.det, hk.requests, rfl, hk.cmd, hk.drawn⟩
  have hcounts : KeepsCounts s { u with lnk := l } := ⟨hc.nextTag, hc.patterns, hc.lanes⟩
  refine ⟨h.lnk, ?_, hcounts.trans h.counts, fun n => ?_⟩
  · rw [h.lnk]
    exact hkeeps.trans h.toKeepsBeyondTracking
  · rw [h.out]
    exact ⟨(ho n).rest, (ho n).waiting, (ho n).pulse⟩

/-! ### HALT and ABORT: a purge of ALL after a change of the line state -/

section

variable {s : State} {l : LineState} (cause : PurgeCause)

/-- The line state that HALT and ABORT enter is none a drain can end in. -/
theorem purgeAll_line (hl : l ≠ .draining) : (purgeItems cause none (setLine l s)).lcu.line = l := by
  rw [(purgeItems_evolves cause none (setLine l s)).line, setLine_line]
  exact if_neg fun h => hl h.1

theorem purgeAll_keeps : KeepsBeyondTracking s (purgeItems cause none (setLine l s)) :=
  (setLine_keeps l s).trans (purgeItems_keeps cause none _)

theorem purgeAll_counts : KeepsCounts s (purgeItems cause none (setLine l s)) := by
  have h := purgeItems_counts cause none (setLine l s)
  refine ⟨h.nextTag.trans ?_, h.patterns.trans ?_, h.lanes.trans ?_⟩ <;> rw [setLine_trk]

theorem purgeAll_shed : OutputsShed s (purgeItems cause none (setLine l s)) :=
  (OutputsShed.of_out (setLine_out l s)).trans (purgeItems_shed cause none _)

/-- What HALT and ABORT leave, of the table as R3, R5 and R8 have it. -/
theorem purgeAll_eq (hne : s.lcu.line ≠ l) (ht : TableInv s) (ho : OutcomeListInv s) :
    purgeItems cause none (setLine l s) =
      State.afterPurge cause none { s with lcu := { s.lcu with line := l }, rpt := { s.rpt with latchDue := true } } := by
  have hset : setLine l s = { s with lcu := { s.lcu with line := l }, rpt := { s.rpt with latchDue := true } } := by
    unfold setLine
    rw [if_neg hne]
    rfl
  rw [hset]
  exact purgeItems_eq cause none ht ho

/-- The same of the state in which a taken command finds the part. -/
theorem purgeAll_taking_eq (q : Byte) (hne : s.lcu.line ≠ l) (ht : TableInv s) (ho : OutcomeListInv s) :
    purgeItems cause none (setLine l (s.taking q)) =
      (State.afterPurge cause none { s with lcu := { s.lcu with line := l }, rpt := { s.rpt with latchDue := true } }).withLnk
        { s.lnk.counted with lastTaken := some q } := by
  rw [purgeAll_eq cause (s := s.taking q) hne ht ho, ← afterPurge_withLnk]
  rfl

end

theorem purgeCount_all (s : State) : s.purgeCount none = s.trk.table.length := by
  unfold State.purgeCount
  rw [inScope_none, List.filter_true]

theorem commandHalt_purges {s : State} (hl : s.lcu.line = .run ∨ s.lcu.line = .draining) :
    commandHalt s = lineAnswer .ok (s.purgeCount none) none (haltLine .halt s) := by
  unfold commandHalt
  rcases hl with h | h <;> rw [h]

theorem commandHalt_refused {s : State} (hl : s.lcu.line = .setup ∨ s.lcu.line = .halted) :
    commandHalt s = lineAnswer .wrongState 0 none s := by
  unfold commandHalt
  rcases hl with h | h <;> rw [h]

theorem commandAbort_purges {s : State} (hl : s.lcu.line ≠ .setup) :
    commandAbort s = lineAnswer .ok (s.purgeCount none) none (purgeItems .abort none (setLine .setup s)) := by
  unfold commandAbort
  cases h : s.lcu.line with
  | setup => exact absurd h hl
  | run | draining | halted => rfl

theorem commandAbort_already {s : State} (hl : s.lcu.line = .setup) : commandAbort s = lineAnswer .already 0 none s := by
  unfold commandAbort
  rw [hl]

/-- The reply of a line command that purged every item. -/
def allPurged (s : State) (l : LineState) : Answer := ⟨.ok, [l.code, byteOf s.trk.table.length, 0, 0, 0], .none⟩

/-- The answer of HALT and of ABORT where they purge. -/
theorem lineAnswer_purgeAll (cause : PurgeCause) (s : State) {l : LineState} (hl : l ≠ .draining) :
    lineAnswer .ok (s.purgeCount none) none (purgeItems cause none (setLine l s)) =
      (purgeItems cause none (setLine l s), allPurged s l) := by
  unfold lineAnswer lineBody
  rw [purgeAll_line cause hl, purgeCount_all]
  rfl

/-- The line state HALT enters (R135). -/
def haltedLine (s : State) : LineState := if s.lcu.line = .run then .halted else .setup

theorem haltedLine_ne_draining (s : State) : haltedLine s ≠ .draining := by
  unfold haltedLine
  split <;> decide

theorem line_ne_haltedLine {s : State} (hl : s.lcu.line = .run ∨ s.lcu.line = .draining) : s.lcu.line ≠ haltedLine s := by
  unfold haltedLine
  rcases hl with h | h <;> rw [h] <;> decide

theorem exec_halt {s : State} {q : Byte} (h : Takes s 0x12 q []) (hl : s.lcu.line = .run ∨ s.lcu.line = .draining) :
    exec (.halt q []) s = .next (concluded { purgeItems .halt none (setLine (haltedLine s) (s.taking q)) with
      lnk := s.lnk.afterTaken 0x12 q [] (allPurged s (haltedLine s)) }) := by
  have hx : instantCommand .halt [] (s.taking q) =
      some (purgeItems .halt none (setLine (haltedLine s) (s.taking q)), allPurged s (haltedLine s)) := by
    show some (commandHalt (s.taking q)) = _
    rw [commandHalt_purges (s := s.taking q) hl]
    exact congrArg some (lineAnswer_purgeAll .halt (s.taking q) (haltedLine_ne_draining s))
  show Host.Outcome.next (receiveFrame 0x12 q [] s) = _
  rw [receiveFrame_instant h (by decide) (by decide) rfl hx (purgeAll_keeps .halt).lnk]

theorem exec_abort {s : State} {q : Byte} (h : Takes s 0x13 q []) (hl : s.lcu.line ≠ .setup) :
    exec (.abort q []) s = .next (concluded { purgeItems .abort none (setLine .setup (s.taking q)) with
      lnk := s.lnk.afterTaken 0x13 q [] (allPurged s .setup) }) := by
  have hx : instantCommand .abort [] (s.taking q) =
      some (purgeItems .abort none (setLine .setup (s.taking q)), allPurged s .setup) := by
    show some (commandAbort (s.taking q)) = _
    rw [commandAbort_purges (s := s.taking q) hl]
    exact congrArg some (lineAnswer_purgeAll .abort (s.taking q) (by decide))
  show Host.Outcome.next (receiveFrame 0x13 q [] s) = _
  rw [receiveFrame_instant h (by decide) (by decide) rfl hx (purgeAll_keeps .abort).lnk]

/-- What HALT and ABORT leave, whatever stands in the table. -/
theorem concluded_purgeAll (cause : PurgeCause) (s : State) (q : Byte) {l : LineState} (hl : l ≠ .draining) (m : Lnk) :
    (concluded { purgeItems cause none (setLine l (s.taking q)) with lnk := m }).lcu.line = l
      ∧ (concluded { purgeItems cause none (setLine l (s.taking q)) with lnk := m }).trk.table = [] := by
  have h := concluded_keeps { purgeItems cause none (setLine l (s.taking q)) with lnk := m }
  exact ⟨h.line.trans (purgeAll_line cause hl), by rw [h.trk]; exact purgeItems_all_table cause _⟩

/-- Settles O17: HALT and ABORT change the line state and purge ALL, and `State.afterPurge` says what that leaves. -/
theorem haltAndAbortEmptyTheTable : Obligations.HaltAndAbortEmptyTheTable := by
  refine ⟨fun s q h => ⟨fun hl ht ho => ?_, fun hl => ?_, fun hl => ?_⟩,
    fun s q h => ⟨fun hl ht ho => ?_, fun hl => ?_, fun hl => ?_⟩⟩
  · rw [exec_halt h hl, purgeAll_taking_eq .halt q (line_ne_haltedLine hl) ht ho]
    rfl
  · obtain ⟨hline, htable⟩ := concluded_purgeAll .halt s q (haltedLine_ne_draining s)
      (s.lnk.afterTaken 0x12 q [] (allPurged s (haltedLine s)))
    obtain ⟨hlnk, hrest⟩ := concluded_purge (s.lnk.afterTaken 0x12 q [] (allPurged s (haltedLine s)))
      (purgeAll_keeps .halt) (purgeAll_counts .halt) (purgeAll_shed (l := haltedLine s) .halt)
    exact ⟨_, exec_halt h hl, hline, htable, by rw [hlnk, hline]; rfl, hrest⟩
  · show Host.Outcome.next (receiveFrame 0x12 q [] s) = _
    rw [receiveFrame_inspect (k := .halt) h (by decide) (by decide) rfl (congrArg some (commandHalt_refused hl))]
    rfl
  · rw [exec_abort h hl, purgeAll_taking_eq .abort q hl ht ho]
    rfl
  · obtain ⟨hline, htable⟩ := concluded_purgeAll .abort s q (l := .setup) (by decide)
      (s.lnk.afterTaken 0x13 q [] (allPurged s .setup))
    obtain ⟨hlnk, hrest⟩ := concluded_purge (s.lnk.afterTaken 0x13 q [] (allPurged s .setup))
      (purgeAll_keeps .abort) (purgeAll_counts .abort) (purgeAll_shed (l := .setup) .abort)
    exact ⟨_, exec_abort h hl, hline, htable, hlnk, hrest⟩
  · have hbody : lineBody (s.taking q) 0 none = [0, 0, 0, 0, 0] := by
      show s.lcu.line.code :: _ = _
      rw [hl]
      rfl
    have hx := congrArg some (commandAbort_already (s := s.taking q) hl)
    unfold lineAnswer at hx
    rw [hbody] at hx
    show Host.Outcome.next (receiveFrame 0x13 q [] s) = _
    rw [receiveFrame_inspect (k := .abort) h (by decide) (by decide) rfl hx]
    rfl

/-! ### PURGE of a scope -/

/-- The scope byte of a lane, or of ALL (R199). -/
def scopeByte : Option LaneId → Byte
  | none => 0xFF
  | some n => byteOf n.val

theorem scopeOf_scopeByte (scope : Option LaneId) : scopeOf (scopeByte scope) = some scope := by
  cases scope with
  | none => rfl
  | some n => fin_cases n <;> rfl

theorem scopeOf_none {b : Byte} (h3 : 3 < b.toNat) (hall : b ≠ 0xFF) : scopeOf b = none := by
  unfold scopeOf finOf
  rw [if_neg hall, dif_neg (by omega)]
  rfl

theorem scopeOf_some {b : Byte} (h : b.toNat ≤ 3 ∨ b = 0xFF) : ∃ scope, scopeOf b = some scope := by
  unfold scopeOf finOf
  by_cases hall : b = 0xFF
  · exact ⟨none, if_pos hall⟩
  · have h3 : b.toNat < 4 := by
      have := h.resolve_right hall
      omega
    exact ⟨some ⟨b.toNat, h3⟩, by rw [if_neg hall, dif_pos h3]; rfl⟩

theorem byteAt_zero (b : Byte) : byteAt [b] 0 = b := rfl

theorem commandPurge_purges {s : State} {b : Byte} {scope : Option LaneId} (hb : scopeOf b = some scope)
    (hl : s.lcu.line = .run ∨ s.lcu.line = .draining) :
    commandPurge [b] s = lineAnswer .ok (s.purgeCount scope) none (purgeItems .purge scope s) := by
  unfold commandPurge
  rw [byteAt_zero, hb]
  rcases hl with h | h <;> simp only [h]

theorem commandPurge_wrongState {s : State} {b : Byte} {scope : Option LaneId} (hb : scopeOf b = some scope)
    (hl : s.lcu.line = .setup ∨ s.lcu.line = .halted) : commandPurge [b] s = lineAnswer .wrongState 0 none s := by
  unfold commandPurge
  rw [byteAt_zero, hb]
  rcases hl with h | h <;> simp only [h]

theorem commandPurge_badArgument {s : State} {b : Byte} (hb : scopeOf b = none) :
    commandPurge [b] s = lineAnswer .badArgument 0 none s := by
  unfold commandPurge
  rw [byteAt_zero, hb]

/-- What a purge of a scope leaves in the table, whatever its outcome lists are. -/
theorem purgeItems_table (cause : PurgeCause) (scope : Option LaneId) {s : State}
    (hd : (s.trk.table.map (·.tag)).Nodup) :
    (purgeItems cause scope s).trk.table = s.trk.table.filter fun i => scope.any fun n => i.lane != n := by
  unfold purgeItems
  rw [foldl_purgeItem_table, ← leftBy_scope hd scope]
  rfl

/-- The items of a scope and those beyond it are the whole table. -/
theorem purgeCount_eq (scope : Option LaneId) (s : State) :
    s.purgeCount scope = s.trk.table.length - (s.trk.table.filter fun i => scope.any fun n => i.lane != n).length := by
  have h := List.length_eq_length_filter_add (l := s.trk.table) (inScope scope)
  have hnot : (fun i => !inScope scope i) = fun i : Item => scope.any fun n => i.lane != n :=
    funext fun i => (not_inScope scope i).symm
  rw [hnot] at h
  unfold State.purgeCount
  omega

/-- The answer of a PURGE that removes its scope. -/
def scopePurged (s : State) (scope : Option LaneId) (line : LineState) : Answer :=
  ⟨.ok, [line.code, byteOf (s.purgeCount scope), 0, 0, 0], .none⟩

theorem exec_purge {s : State} {q b : Byte} {scope : Option LaneId} (h : Takes s 0x15 q [b]) (hb : scopeOf b = some scope)
    (hl : s.lcu.line = .run ∨ s.lcu.line = .draining) :
    exec (.purge q [b]) s = .next (concluded { purgeItems .purge scope (s.taking q) with
      lnk := s.lnk.afterTaken 0x15 q [b] (scopePurged s scope (purgeItems .purge scope (s.taking q)).lcu.line) }) := by
  have hx : instantCommand .purge [b] (s.taking q) =
      some (purgeItems .purge scope (s.taking q), scopePurged s scope (purgeItems .purge scope (s.taking q)).lcu.line) :=
    congrArg some (commandPurge_purges (s := s.taking q) hb hl)
  show Host.Outcome.next (receiveFrame 0x15 q [b] s) = _
  rw [receiveFrame_instant h (by decide) (by decide) rfl hx (purgeItems_keeps .purge scope _).lnk]

/-- Settles O18: `State.afterPurge` says what a PURGE leaves, and its line state is that of the table's evolution. -/
theorem purgeRemovesItsScope : Obligations.PurgeRemovesItsScope := by
  refine fun s q b h => ⟨fun scope hb hl ht => ⟨fun ho => ?_, ?_⟩, fun h3 hall => ?_, fun hscope hl => ?_⟩
  · have hb' : scopeOf b = some scope := by rw [hb]; exact scopeOf_scopeByte scope
    have hu : purgeItems .purge scope (s.taking q) =
        (s.afterPurge .purge scope).withLnk { s.lnk.counted with lastTaken := some q } := by
      rw [purgeItems_eq .purge scope (s := s.taking q) ht ho, taking_eq, afterPurge_withLnk]
    rw [exec_purge h hb' hl, hu]
    rfl
  · have hb' : scopeOf b = some scope := by rw [hb]; exact scopeOf_scopeByte scope
    have htable := purgeItems_table .purge scope (s := s.taking q) ht.2.1
    have hline := (purgeItems_evolves .purge scope (s.taking q)).line
    have hends := concluded_keeps { purgeItems .purge scope (s.taking q) with
      lnk := s.lnk.afterTaken 0x15 q [b] (scopePurged s scope (purgeItems .purge scope (s.taking q)).lcu.line) }
    obtain ⟨hlnk, hrest⟩ := concluded_purge
      (s.lnk.afterTaken 0x15 q [b] (scopePurged s scope (purgeItems .purge scope (s.taking q)).lcu.line))
      (purgeItems_keeps .purge scope _) (purgeItems_counts .purge scope _) (purgeItems_shed .purge scope _)
    refine ⟨_, exec_purge h hb' hl, ?_, ?_, ?_, hrest⟩
    · rw [hends.trk]
      exact htable
    · rw [hends.line, hends.trk]
      exact hline
    · rw [hlnk, hends.line, hends.trk]
      show s.lnk.afterTaken 0x15 q [b] ⟨.ok, [_, byteOf (s.purgeCount scope), 0, 0, 0], .none⟩ = _
      rw [purgeCount_eq]
      exact congrArg (fun l : List Item => s.lnk.afterTaken 0x15 q [b]
        ⟨.ok, [(purgeItems .purge scope (s.taking q)).lcu.line.code, byteOf (s.trk.table.length - l.length), 0, 0, 0], .none⟩)
        htable.symm
  · show Host.Outcome.next (receiveFrame 0x15 q [b] s) = _
    rw [receiveFrame_inspect (k := .purge) h (by decide) (by decide) rfl
      (congrArg some (commandPurge_badArgument (s := s.taking q) (scopeOf_none h3 hall)))]
    rfl
  · obtain ⟨scope, hb⟩ := scopeOf_some hscope
    show Host.Outcome.next (receiveFrame 0x15 q [b] s) = _
    rw [receiveFrame_inspect (k := .purge) h (by decide) (by decide) rfl
      (congrArg some (commandPurge_wrongState (s := s.taking q) hb hl))]
    rfl

end Sys2Proof.Machine

end

/-! ## Proofs: O34 -/

section

namespace Sys2Proof.Machine

open Sys2Proof

/-- The debt set to a value: a change of REVERSE is passed to the latch (R108, R112). -/
theorem setDebt_eq (d : Nat) (s : State) :
    setDebt d s = { s with mot := { s.mot with debt := d } }.withDue (decide (0 < s.mot.debt) != decide (0 < d)) := by
  have hdue : (decide (0 < s.mot.debt) != decide (0 < d)) = decide ¬ (decide (0 < s.mot.debt) = decide (0 < d)) := by
    cases decide (0 < s.mot.debt) <;> cases decide (0 < d) <;> rfl
  rw [hdue, ← passStatus_if]
  unfold setDebt
  by_cases h : decide (0 < s.mot.debt) = decide (0 < d) <;> simp [h, mapMot]

/-- A FAULT neither reads nor changes whether a comparison is due. -/
theorem passFault_withDue (v : FaultValues) (due : Bool) (s : State) :
    passFault v { s with rpt := { s.rpt with latchDue := due } } =
      { passFault v s with rpt := { (passFault v s).rpt with latchDue := due } } := by
  unfold passFault
  by_cases hq : s.rpt.queue.any (·.takesFault v) = true
  · rw [if_pos hq, if_pos hq]
  · by_cases hl : s.rpt.queue.length < Config.reportCapacity
    · rw [if_neg hq, if_neg hq, if_pos hl, if_pos hl]
      unfold Rpt.withSuppressed
      split <;> rfl
    · rw [if_neg hq, if_neg hq, if_neg hl, if_neg hl]
      unfold Rpt.withSuppressed Rpt.suppressedOf
      split <;> rfl

theorem reverseCount_beyond {s : State} (h : s.lcu.active.motion.reverseLimit < s.mot.debt) : reverseCount s = s := by
  unfold reverseCount
  exact if_pos h

theorem reverseCount_capped {s : State} (hd : s.mot.debt = s.lcu.active.motion.reverseLimit)
    (hl : ¬ (s.lcu.line = .run ∨ s.lcu.line = .draining)) :
    reverseCount s = setDebt (s.lcu.active.motion.reverseLimit + 1) s := by
  unfold reverseCount
  dsimp only
  rw [if_neg (by omega), if_neg fun h => hl h.2, hd]

/-- The part as TRACK_LOST finds it: the debt at the limit plus one (R108, R109). -/
def State.overLimit (s : State) : State := setDebt (s.lcu.active.motion.reverseLimit + 1) s

theorem reverseCount_trackLost {s : State} (hd : s.mot.debt = s.lcu.active.motion.reverseLimit)
    (hl : s.lcu.line = .run ∨ s.lcu.line = .draining) :
    reverseCount s = haltLine .trackLost
      (passFault (.trackLost s.mot.position (s.lcu.active.motion.reverseLimit + 1)) s.overLimit) := by
  have hmot : s.overLimit.mot = { s.mot with debt := s.lcu.active.motion.reverseLimit + 1 } := by
    unfold State.overLimit
    rw [setDebt_eq]
    rfl
  have hp : s.overLimit.mot.position = s.mot.position := by rw [hmot]
  have hdebt : s.overLimit.mot.debt = s.lcu.active.motion.reverseLimit + 1 := by rw [hmot]
  unfold reverseCount
  dsimp only
  rw [if_neg (by omega), if_pos ⟨hd, hl⟩, hd]
  show haltLine .trackLost (passFault (.trackLost s.overLimit.mot.position s.overLimit.mot.debt) s.overLimit) = _
  rw [hp, hdebt]

theorem passFault_lcu (v : FaultValues) (s : State) : (passFault v s).lcu = s.lcu := by
  unfold passFault
  split
  · rfl
  · split <;> rfl

/-- The part as the halt request of TRACK_LOST finds it, but for the comparison due, which the halt calls for anyway. -/
theorem trackLost_fault_eq (v : FaultValues) (s : State) :
    ∃ due, passFault v s.overLimit =
      { passFault v { s with mot := { s.mot with debt := s.lcu.active.motion.reverseLimit + 1 } } with
        rpt := { (passFault v { s with mot := { s.mot with debt := s.lcu.active.motion.reverseLimit + 1 } }).rpt with
          latchDue := due } } := by
  unfold State.overLimit
  rw [setDebt_eq]
  exact ⟨_, passFault_withDue v _ _⟩

theorem not_counting_lines {s : State} (hl : s.lcu.line = .setup ∨ s.lcu.line = .halted) :
    ¬ (s.lcu.line = .run ∨ s.lcu.line = .draining) := by
  rcases hl with h | h <;> rw [h] <;> decide

theorem becomes_reverse (limit : Nat) : (decide (0 < limit) != decide (0 < limit + 1)) = decide (limit = 0) := by
  cases limit <;> simp

/-- HALT's course, of the table as R3, R5 and R8 have it (R135, R139). -/
theorem haltLine_eq (cause : PurgeCause) {s : State} (hl : s.lcu.line = .run ∨ s.lcu.line = .draining) (ht : TableInv s)
    (ho : OutcomeListInv s) :
    haltLine cause s = State.afterPurge cause none
      { s with lcu := { s.lcu with line := haltedLine s }, rpt := { s.rpt with latchDue := true } } :=
  purgeAll_eq cause (line_ne_haltedLine hl) ht ho

theorem haltLine_line (cause : PurgeCause) (s : State) : (haltLine cause s).lcu.line = haltedLine s :=
  purgeAll_line cause (haltedLine_ne_draining s)

theorem haltLine_keeps (cause : PurgeCause) (s : State) : KeepsBeyondTracking s (haltLine cause s) := purgeAll_keeps cause

theorem haltLine_counts (cause : PurgeCause) (s : State) : KeepsCounts s (haltLine cause s) := purgeAll_counts cause

/-- Settles O34: TRACK_LOST is HALT's purge with its own cause, after the debt and the FAULT (R109, R139). -/
theorem reverseCountAtTheLimit : Obligations.ReverseCountAtTheLimit := by
  intro s
  refine ⟨fun hd hl => ?_, reverseCount_beyond, fun hd hl ht ho => ?_, fun hd hl => ?_⟩
  · rw [reverseCount_capped hd (not_counting_lines hl), setDebt_eq, hd, becomes_reverse]
    rfl
  · intro u
    have hlcu : u.lcu = s.lcu := passFault_lcu _ _
    have htrk : u.trk = s.trk := (passFault_keeps _ _).trk
    obtain ⟨due, hfault⟩ := trackLost_fault_eq (.trackLost s.mot.position (s.lcu.active.motion.reverseLimit + 1)) s
    have hline : haltedLine u = haltedLine s := by unfold haltedLine; rw [hlcu]
    have hpurge := haltLine_eq .trackLost (s := { u with rpt := { u.rpt with latchDue := due } })
      (by rw [hlcu]; exact hl) (by unfold TableInv; rw [htrk]; exact ht) (by unfold OutcomeListInv; rw [htrk]; exact ho)
    rw [reverseCount_trackLost hd hl, hfault, hpurge]
    show State.afterPurge .trackLost none { u with
      lcu := { u.lcu with line := haltedLine u }, rpt := { u.rpt with latchDue := true } } = _
    rw [hline, hlcu]
    rfl
  · have hover : KeepsBeyondTracking { s with mot := { s.mot with debt := s.lcu.active.motion.reverseLimit + 1 } }
          s.overLimit ∧ s.overLimit.trk = s.trk ∧ s.overLimit.lcu = s.lcu := by
      unfold State.overLimit
      rw [setDebt_eq]
      exact ⟨⟨rfl, rfl, rfl, rfl, rfl, rfl, rfl, rfl, rfl, rfl, rfl⟩, rfl, rfl⟩
    obtain ⟨hkeeps, htrk, hlcu⟩ := hover
    have hfault := passFault_keeps (.trackLost s.mot.position (s.lcu.active.motion.reverseLimit + 1)) s.overLimit
    have hall := hkeeps.trans (hfault.toKeepsBeyondTracking.trans (haltLine_keeps .trackLost _))
    have hcounts : KeepsCounts s s.overLimit := by constructor <;> rw [htrk]
    rw [reverseCount_trackLost hd hl]
    refine ⟨hall.mot, haltLine_table _ _, ?_, hall, hcounts.trans (hfault.counts.trans (haltLine_counts .trackLost _))⟩
    rw [haltLine_line]
    unfold haltedLine
    rw [hfault.line, hlcu]

end Sys2Proof.Machine

end

/-! ## Proofs: O47 and O50 -/

section

namespace Sys2Proof.Machine

open Sys2Proof

/-! ### Requests in start order: O47 -/

/-- A request takes its place after those that start no later (R77). -/
theorem insertRequest_append {r : Request} {before after : List Request} (hb : ∀ x ∈ before, x.start ≤ r.start)
    (ha : ∀ x ∈ after, r.start < x.start) : insertRequest r (before ++ after) = before ++ r :: after := by
  induction before with
  | nil =>
    cases after with
    | nil => rfl
    | cons x xs => exact if_neg (not_le.mpr (ha x (List.mem_cons_self ..)))
  | cons x xs ih =>
    have hx : x.start ≤ r.start := hb x (List.mem_cons_self ..)
    have hxs := ih fun y hy => hb y (List.mem_cons_of_mem x hy)
    rw [List.cons_append, List.cons_append, ← hxs]
    exact if_pos hx

theorem handRequest_full {n : OutputId} {r : Request} {s : State} (h : 8 ≤ (s.out.get n).waiting.length) :
    handRequest n r s = setOutcome r.tag r.station (.missed .listFull) s := by
  unfold handRequest
  exact if_pos h

/-- A request accepted (R19): its entry ARMED, and itself in the pending list. -/
def State.filed (n : OutputId) (r : Request) (s : State) : State :=
  setOutcome r.tag r.station .armed (mapOutput n (fun o => { o with waiting := insertRequest r o.waiting }) s)

theorem filed_waiting (n : OutputId) (r : Request) (s : State) :
    ((s.filed n r).out.get n).waiting = insertRequest r (s.out.get n).waiting := by
  show ((s.out.set n _).get n).waiting = _
  rw [Oct.get_set_self]

theorem handRequest_later {n : OutputId} {r : Request} {s : State} (h : (s.out.get n).waiting.length < 8)
    (hr : s.mot.position < r.start) : handRequest n r s = s.filed n r := by
  have hroom : ¬ Config.pendingCapacity ≤ (s.out.get n).waiting.length := not_le.mpr h
  unfold handRequest
  rw [if_neg hroom]
  exact if_neg (not_le.mpr hr)

theorem handRequest_reached {n : OutputId} {r : Request} {s : State} (h : (s.out.get n).waiting.length < 8)
    (hr : r.start ≤ s.mot.position) :
    handRequest n r s = ((insertRequest r (s.out.get n).waiting).filter fun q => decide (q.start ≤ s.mot.position)).foldl
      (fun u q => takeStart n (q == r) q u) (s.filed n r) := by
  rw [← filed_waiting]
  have hroom : ¬ Config.pendingCapacity ≤ (s.out.get n).waiting.length := not_le.mpr h
  unfold handRequest
  rw [if_neg hroom]
  exact if_pos hr

/-- An entry that is not yet final is counted by no station counter. -/
theorem counting_armed (k : Trk) (st : StationId) : (k.counting st fun c => c.count .armed) = k := by
  show { k with stations := k.stations.set st (k.stations.get st) } = k
  rw [Oct.set_get_self]

theorem filed_eq {n : OutputId} {r : Request} {s : State} {before after : List Request}
    (hw : (s.out.get n).waiting = before ++ after) (hb : ∀ x ∈ before, x.start ≤ r.start)
    (ha : ∀ x ∈ after, r.start < x.start) :
    s.filed n r = { s with
      trk := s.trk.withEntry r.tag r.station fun e => { e with outcome := .armed }
      out := s.out.set n { s.out.get n with waiting := before ++ r :: after } } := by
  unfold State.filed
  rw [setOutcome_eq, counting_armed, ← insertRequest_append hb ha, ← hw]
  rfl

/-- Settles O47: the list is split where the request takes its place. -/
theorem requestsAreFiledInStartOrder : Obligations.RequestsAreFiledInStartOrder := by
  intro s n r
  refine ⟨fun h => handRequest_full h, fun before after hw hlen hb ha => ?_⟩
  have hfiled := filed_eq hw hb fun x hx => (ha x hx).1
  refine ⟨fun hr => (handRequest_later hlen hr).trans hfiled, fun hr hnil => ?_⟩
  subst hnil
  have hreached : ((insertRequest r (s.out.get n).waiting).filter fun q => decide (q.start ≤ s.mot.position)) = [r] := by
    rw [hw, insertRequest_append hb fun x hx => (ha x hx).1, List.nil_append, List.filter_cons_of_pos (by simpa using hr),
      List.filter_eq_nil_iff.mpr fun x hx => by simpa using (ha x hx).2]
  rw [handRequest_reached hlen hr, hreached, hfiled, List.foldl_cons, List.foldl_nil, beq_self_eq_true]

/-! ### Notices: O50 -/

section

variable {s : State} {t : Tag} {st : StationId}

theorem startNotice_other (h : s.outcome? t st ≠ some .armed) (m l : Bool) : startNotice t st m l s = s := by
  unfold startNotice
  split
  · rfl
  · rename_i i hi
    rw [outcome?_of_item? hi] at h
    exact if_neg h

/-- A start notice makes an ARMED entry ACTIVE, and a CAPTURE station's is reported (R20). -/
theorem startNotice_armed {i : Item} (hi : s.item? t = some i) (h : (i.entry? st).map (·.outcome) = some .armed)
    (merged late : Bool) :
    startNotice t st merged late s =
      let started := mapEntry t st (fun e =>
        { e with outcome := .active, merged := e.merged || merged, lateStart := e.lateStart || late }) s
      let c := s.lcu.active.stations.get st
      if c.kind = .capture then passEvent (.capture t st c.output (c.startPosition i.reference) merged late) started
      else started := by
  unfold startNotice
  rw [hi]
  exact if_pos h

theorem missNotice_other (h : s.outcome? t st ≠ some .armed) (c : MissCause) : missNotice t st c s = s := if_neg h

theorem endNotice_other (h : s.outcome? t st ≠ some .active) (b : Bool) : endNotice [(t, st)] b s = s := if_neg h

theorem outcome?_none (h : ∀ i ∈ s.trk.table, i.tag ≠ t) : s.outcome? t st = none := by
  unfold State.outcome?
  rw [item?_none.mpr h]
  rfl

/-- A change of the flags of an entry and one of its outcome are one change. -/
theorem setOutcome_mapEntry (o : StationOutcome) (f : Entry → Entry) (hf : ∀ e, (f e).station = e.station) :
    setOutcome t st o (mapEntry t st f s) = { s with
      trk := (s.trk.withEntry t st fun e => { f e with outcome := o }).counting st fun c => c.count o } := by
  have hentries (l : List Entry) :
      (l.map fun e => if e.station = st then f e else e).map (fun e => if e.station = st then { e with outcome := o } else e)
        = l.map fun e => if e.station = st then { f e with outcome := o } else e := by
    rw [List.map_map]
    refine List.map_congr_left fun e _ => ?_
    by_cases h : e.station = st <;> simp [h, hf]
  have htable : ((mapEntry t st f s).trk.withEntry t st fun e => { e with outcome := o })
      = s.trk.withEntry t st fun e => { f e with outcome := o } := by
    unfold mapEntry mapItem Trk.withEntry Trk.withItem
    dsimp only
    rw [List.map_map]
    congr 1
    refine List.map_congr_left fun i _ => ?_
    by_cases h : i.tag = t
    · simp [h, Item.mapEntry, hentries]
    · simp [h]
  rw [setOutcome_eq, htable]
  rfl

end

/-- Settles O50: each notice acts on an entry of one outcome, and `removeItem_eq` says what a retirement does. -/
theorem noticesMoveOutcomesAndRetire : Obligations.NoticesMoveOutcomesAndRetire := by
  refine ⟨⟨fun s a b l tr => ⟨rfl, rfl⟩, fun s t st a b cause h => ?_, fun s t i hi st => ⟨?_, ?_, ?_, ?_, ?_⟩⟩,
    fun s t i hi => ⟨?_, ?_⟩⟩
  · have hout : s.outcome? t st = none := outcome?_none h
    exact ⟨startNotice_other (by simp [hout]) a b, missNotice_other (by simp [hout]) cause, endNotice_other (by simp [hout]) a⟩
  · intro merged late h
    exact ⟨fun hk => (startNotice_armed hi h merged late).trans (if_pos hk),
      fun hk => (startNotice_armed hi h merged late).trans (if_neg hk)⟩
  · intro cause h
    rw [← outcome?_of_item? hi] at h
    exact if_pos h
  · intro tr h
    rw [← outcome?_of_item? hi] at h
    have hn : endNotice [(t, st)] tr s = retireIfDone t (setOutcome t st .fired
      (mapEntry t st (fun e => { e with truncated := e.truncated || tr }) s)) := if_pos h
    rw [hn, setOutcome_mapEntry .fired (fun e => { e with truncated := e.truncated || tr }) fun _ => rfl]
    rfl
  · intro a b cause h
    rw [← outcome?_of_item? hi] at h
    exact ⟨startNotice_other h a b, missNotice_other h cause⟩
  · intro a h
    rw [← outcome?_of_item? hi] at h
    exact endNotice_other h a
  · rintro ⟨e, he, hf⟩
    refine retireIfDone_open hi (Bool.eq_false_iff.mpr fun hd => ?_)
    rw [List.all_eq_true.mp hd e he] at hf
    exact Bool.noConfusion hf
  · intro hall
    rw [retireIfDone_done hi (List.all_eq_true.mpr hall), removeItem_eq, item?_tag hi]
    refine ⟨rfl, rfl, ?_, rfl, ⟨rfl, rfl, rfl, rfl, rfl, rfl, rfl, rfl, rfl, rfl, rfl⟩⟩
    rw [passEvent_rpt]

end Sys2Proof.Machine

end

/-! ## Proofs: O37, the forward tick -/

section

namespace Sys2Proof.Machine

open Sys2Proof

/-! ### Motion -/

/-- MOT's changes at a forward tick: the next position, MOTION MOVING, the standstill timer anew (R98, R111). -/
def State.moved (s : State) : State :=
  { s with
    mot := { s.mot with
      position := s.mot.position + 1
      moving := true
      standstill := some (s.now + 1000 * s.lcu.active.motion.standstill) }
    rpt := { s.rpt with latchDue := s.rpt.latchDue || !s.mot.moving } }

theorem markMoving_eq (s : State) :
    markMoving s = (mapMot (fun m => { m with
      standstill := some (s.now + 1000 * s.lcu.active.motion.standstill), moving := true }) s).withDue (!s.mot.moving) := by
  rw [← passStatus_if]
  unfold markMoving
  cases s.mot.moving <;> rfl

theorem markMoving_advancePosition {s : State} (h : s.mot.position + 1 < 2 ^ 48) :
    markMoving (advancePosition s) = s.moved := by
  have hadvance : advancePosition s = mapMot (fun m => { m with position := m.position + 1 }) s := if_pos h
  rw [hadvance, markMoving_eq]
  rfl

theorem forwardTick_moved (o : TickOrder) {s : State} (h : s.mot.position + 1 < 2 ^ 48) :
    forwardTick o s = tickOutputs o (outputsAfter o)
      (tickTracking (tickOutputs o (outputsBefore o) (tickDetectors s.moved))) := by
  unfold forwardTick
  rw [markMoving_advancePosition h]

/-! ### A tick with nothing due -/

theorem mem_allEight (n : Fin 8) : n ∈ allEight := by
  revert n
  decide

theorem mem_allLanes (n : LaneId) : n ∈ allLanes := by
  revert n
  decide

theorem overlongTest_absent {s : State} {n : LaneId} (h : (s.det.get n).state ≠ .present) : overlongTest s n = s := by
  unfold overlongTest
  dsimp only
  split
  · rename_i hp _
    exact absurd hp h
  · rfl

theorem tickDetectors_absent {s : State} (h : ∀ n, (s.det.get n).state ≠ .present) : tickDetectors s = s :=
  List.foldl_fixed' (fun n => overlongTest_absent (h n)) allLanes

theorem tickEnd_other {s : State} {n : OutputId}
    (h : ∀ p ∈ (s.out.get n).pulse, p.endPosition ≠ some s.mot.position) : tickEnd n s = s := by
  unfold tickEnd
  split
  · rfl
  · rename_i p hp
    exact if_neg fun hend => h p hp hend.1

/-- The pending entries that start at the position. -/
def State.dueStarts (s : State) (n : OutputId) : List Request :=
  (s.out.get n).waiting.filter fun r => decide (r.start = s.mot.position)

theorem tickOutput_eq (k : Nat) (n : OutputId) (s : State) :
    tickOutput k n s = takeStarts n ((s.dueStarts n).drop k) (tickEnd n (takeStarts n ((s.dueStarts n).take k) s)) := rfl

theorem tickOutput_idle (k : Nat) {n : OutputId} {s : State} (hs : ∀ r ∈ (s.out.get n).waiting, r.start ≠ s.mot.position)
    (he : ∀ p ∈ (s.out.get n).pulse, p.endPosition ≠ some s.mot.position) : tickOutput k n s = s := by
  have hnone : s.dueStarts n = [] := List.filter_eq_nil_iff.mpr fun r hr => by simpa using hs r hr
  rw [tickOutput_eq, hnone, List.take_nil, List.drop_nil]
  exact tickEnd_other he

theorem mem_commitsWhere {s : State} {fits : Nat → Bool} {p : Tag × StationId} :
    p ∈ s.commitsWhere fits ↔ ∃ i ∈ s.trk.table, i.tag = p.1 ∧ ∃ e ∈ i.entries, e.station = p.2 ∧ e.outcome = .wait
      ∧ fits ((s.lcu.active.stations.get p.2).commitPoint i.reference) = true := by
  obtain ⟨t, st⟩ := p
  simp only [State.commitsWhere, List.mem_flatMap, List.mem_map, List.mem_filter, Bool.and_eq_true, beq_iff_eq, Prod.mk.injEq]
  constructor
  · rintro ⟨i, hi, e, ⟨he, hw, hfit⟩, ht, rfl⟩
    exact ⟨i, hi, ht, e, he, rfl, hw, hfit⟩
  · rintro ⟨i, hi, ht, e, he, rfl, hw, hfit⟩
    exact ⟨i, hi, e, ⟨he, hw, hfit⟩, ht, rfl⟩

theorem tickTracking_idle {s : State} (h : ∀ i ∈ s.trk.table, ∀ e ∈ i.entries, e.outcome = .wait →
    (s.lcu.active.stations.get e.station).commitPoint i.reference ≠ s.mot.position) : tickTracking s = s := by
  have hnone : (s.commitsWhere fun c => c == s.mot.position) = [] := List.eq_nil_iff_forall_not_mem.mpr fun p hp => by
    obtain ⟨i, hi, -, e, he, hst, hw, hfit⟩ := mem_commitsWhere.mp hp
    exact h i hi e he hw (hst ▸ beq_iff_eq.mp hfit)
  unfold tickTracking
  rw [hnone]
  rfl

theorem forwardTick_idle (o : TickOrder) {s : State} (hs : NothingDue s) (h : s.mot.position + 1 < 2 ^ 48) :
    forwardTick o s = s.moved := by
  obtain ⟨hcommits, houtputs, hlanes⟩ := hs
  have houtput (n : OutputId) : tickOutput (o.startsFirst.get n) n s.moved = s.moved :=
    tickOutput_idle _ (houtputs n (mem_allEight n)).1 (houtputs n (mem_allEight n)).2
  have houtputs (l : List OutputId) : tickOutputs o l s.moved = s.moved := List.foldl_fixed' houtput l
  have htracking : tickTracking s.moved = s.moved := tickTracking_idle hcommits
  have hdetectors : tickDetectors s.moved = s.moved := tickDetectors_absent fun n => hlanes n (mem_allLanes n)
  rw [forwardTick_moved o h, hdetectors, houtputs, htracking, houtputs]

/-! ### The order of the outputs -/

theorem mem_firstTimes {n : OutputId} {l : List OutputId} : ∀ {seen : List OutputId},
    n ∈ firstTimes seen l ↔ n ∈ l ∧ n ∉ seen := by
  induction l with
  | nil => simp [firstTimes]
  | cons m l ih =>
    intro seen
    by_cases hm : m ∈ seen
    · have hstep : firstTimes seen (m :: l) = firstTimes seen l := if_pos (List.contains_iff_mem.mpr hm)
      rw [hstep, ih, List.mem_cons]
      constructor
      · rintro ⟨hl, hs⟩
        exact ⟨.inr hl, hs⟩
      · rintro ⟨rfl | hl, hs⟩
        · exact absurd hm hs
        · exact ⟨hl, hs⟩
    · have hstep : firstTimes seen (m :: l) = m :: firstTimes (m :: seen) l := if_neg fun h => hm (List.contains_iff_mem.mp h)
      rw [hstep, List.mem_cons, ih, List.mem_cons, List.mem_cons]
      by_cases hnm : n = m
      · simp [hnm, hm]
      · simp [hnm]

theorem nodup_firstTimes (l : List OutputId) : ∀ seen : List OutputId, (firstTimes seen l).Nodup := by
  induction l with
  | nil => exact fun _ => List.nodup_nil
  | cons m l ih =>
    intro seen
    unfold firstTimes
    split
    · exact ih seen
    · exact List.nodup_cons.mpr ⟨fun h => (mem_firstTimes.mp h).2 (List.mem_cons_self ..), ih _⟩

/-- Values new and distinct stand first; what follows them was seen. -/
theorem firstTimes_append_of_new {l m : List OutputId} : ∀ {seen : List OutputId}, l.Nodup → (∀ n ∈ l, n ∉ seen) →
    (∀ n ∈ m, n ∈ l ∨ n ∈ seen) → firstTimes seen (l ++ m) = l := by
  induction l with
  | nil =>
    intro seen _ _ hm
    refine List.eq_nil_iff_forall_not_mem.mpr fun n hn => ?_
    obtain ⟨hnm, hseen⟩ := mem_firstTimes.mp hn
    exact hseen ((hm n hnm).resolve_left List.not_mem_nil)
  | cons a l ih =>
    intro seen hd hnew hm
    obtain ⟨ha, hd⟩ := List.nodup_cons.mp hd
    have hstep : firstTimes seen (a :: (l ++ m)) = a :: firstTimes (a :: seen) (l ++ m) :=
      if_neg fun h => hnew a (List.mem_cons_self ..) (List.contains_iff_mem.mp h)
    rw [List.cons_append, hstep, ih hd]
    · intro n hn hseen
      rcases List.mem_cons.mp hseen with rfl | hseen
      · exact ha hn
      · exact hnew n (List.mem_cons_of_mem a hn) hseen
    · intro n hn
      rcases hm n hn with h | h
      · rcases List.mem_cons.mp h with rfl | h
        · exact .inr (List.mem_cons_self ..)
        · exact .inl h
      · exact .inr (List.mem_cons_of_mem a h)

/-- Each output takes the tick once. -/
theorem outputs_perm (o : TickOrder) : (outputsBefore o ++ outputsAfter o).Perm allEight := by
  have hnodup : (outputsBefore o ++ outputsAfter o).Nodup :=
    List.nodup_append.mpr ⟨nodup_firstTimes _ _, nodup_firstTimes _ _, fun n hb m ha hnm =>
      (mem_firstTimes.mp ha).2 (hnm ▸ hb)⟩
  refine (List.perm_ext_iff_of_nodup hnodup (by decide)).mpr fun n => ⟨fun _ => mem_allEight n, fun _ => ?_⟩
  by_cases hb : n ∈ outputsBefore o
  · exact List.mem_append_left _ hb
  · exact List.mem_append_right _ (mem_firstTimes.mpr ⟨List.mem_append_right _ (mem_allEight n), hb⟩)

theorem outputs_of_perm {o : TickOrder} (h : (o.before ++ o.after).Perm allEight) :
    outputsBefore o = o.before ∧ outputsAfter o = o.after := by
  obtain ⟨hbefore, hafter, hdisjoint⟩ := List.nodup_append.mp (h.symm.nodup (by decide))
  have hb : outputsBefore o = o.before := by
    rw [outputsBefore, ← List.append_nil o.before]
    exact (firstTimes_append_of_new hbefore (by simp) (by simp)).trans (List.append_nil _).symm
  refine ⟨hb, ?_⟩
  rw [outputsAfter, hb]
  exact firstTimes_append_of_new hafter (fun n ha hb => hdisjoint n hb n ha rfl) fun n _ =>
    (List.mem_append.mp (h.mem_iff.mpr (mem_allEight n))).symm

/-! ### What TRK and the outputs take -/

/-- The commits stand in table order, and within an item in ascending station number (R16). -/
theorem commitsWhere_pairwise {s : State} (hs : OutcomeListInv s) (fits : Nat → Bool) :
    (s.commitsWhere fits).Pairwise fun p q => [p.1, q.1].Sublist (s.trk.table.map (·.tag)) ∨ (p.1 = q.1 ∧ p.2 < q.2) := by
  refine List.pairwise_flatMap.mpr ⟨fun i hi => ?_, List.pairwise_iff_forall_sublist.mpr fun {i j} hij => ?_⟩
  · exact List.pairwise_map.mpr (((List.pairwise_map.mp (hs i hi)).filter _).imp fun h => .inr ⟨rfl, h⟩)
  · intro p hp q hq
    obtain ⟨_, -, rfl⟩ := List.mem_map.mp hp
    obtain ⟨_, -, rfl⟩ := List.mem_map.mp hq
    exact .inl (List.Sublist.map Item.tag hij)

theorem dueCommits_commitsWhere {s : State} (hs : OutcomeListInv s) :
    DueCommits s (s.commitsWhere fun c => c == s.mot.position) :=
  ⟨fun _ => by simp only [mem_commitsWhere, beq_iff_eq], commitsWhere_pairwise hs _⟩

theorem dueStarts_split {s : State} {n : OutputId} {past due later : List Request}
    (hw : (s.out.get n).waiting = past ++ due ++ later) (hpast : ∀ r ∈ past, r.start < s.mot.position)
    (hdue : ∀ r ∈ due, r.start = s.mot.position) (hlater : ∀ r ∈ later, s.mot.position < r.start) :
    s.dueStarts n = due := by
  have hp : past.filter (fun r => decide (r.start = s.mot.position)) = [] :=
    List.filter_eq_nil_iff.mpr fun r hr => by simpa using (hpast r hr).ne
  have hd : due.filter (fun r => decide (r.start = s.mot.position)) = due :=
    List.filter_eq_self.mpr fun r hr => by simpa using hdue r hr
  have hl : later.filter (fun r => decide (r.start = s.mot.position)) = [] :=
    List.filter_eq_nil_iff.mpr fun r hr => by simpa using (hlater r hr).ne'
  rw [State.dueStarts, hw, List.filter_append, List.filter_append, hp, hd, hl, List.nil_append, List.append_nil]

/-- Settles O37: every block's part of the tick is empty where nothing is due, and takes what is due otherwise. -/
theorem tickWithNothingDueChangesMotionAlone : Obligations.TickWithNothingDueChangesMotionAlone := by
  refine ⟨fun s o hs h => forwardTick_idle o hs h, fun s o h => forwardTick_moved o h,
    fun o => ⟨outputs_perm o, outputs_of_perm⟩, fun s _ ho => ⟨_, dueCommits_commitsWhere ho, rfl⟩, ?_⟩
  intro s n k past due later hw hpast hdue hlater
  rw [tickOutput_eq, dueStarts_split hw hpast hdue hlater]
  rfl

end Sys2Proof.Machine

end

/-! ## Proofs: O45, the creation of an item -/

section

namespace Sys2Proof.Machine

open Sys2Proof

/-! ### Pattern selection (R65) -/

/-- Whether a station's pattern skips the object at hand. -/
def skipsAt (x : Oct StationConfig) (k : Oct Nat) (st : StationId) : Bool :=
  (x.get st).kind == .capture && !(x.get st).patternMask.getLsbD (k.get st)

/-- An entry once the patterns of these stations are read. -/
def Entry.selectedBy (skips : StationId → Bool) (sts : List StationId) (e : Entry) : Entry :=
  if e.station ∈ sts ∧ skips e.station = true then { e with outcome := .skipped } else e

/-- An item once the patterns of these stations are read. -/
def Item.selectedBy (skips : StationId → Bool) (sts : List StationId) (i : Item) : Item :=
  { i with entries := i.entries.map (Entry.selectedBy skips sts) }

/-- TRK once the patterns of these stations are read for the item of a tag. -/
def Trk.selected (x : Oct StationConfig) (t : Tag) (sts : List StationId) (k : Trk) : Trk :=
  { k with
    table := k.table.map fun i => if i.tag = t then i.selectedBy (skipsAt x k.patterns) sts else i
    patterns := Oct.ofFn fun st =>
      if st ∈ sts ∧ (x.get st).kind = .capture then (k.patterns.get st + 1) % (x.get st).patternLength
      else k.patterns.get st
    stations := Oct.ofFn fun st =>
      if st ∈ sts ∧ skipsAt x k.patterns st = true then
        { k.stations.get st with skipped := (k.stations.get st).skipped + 1 }
      else k.stations.get st }

theorem Trk.eq_of {k l : Trk} (htable : k.table = l.table) (hnext : k.nextTag = l.nextTag)
    (hpatterns : ∀ st, k.patterns.get st = l.patterns.get st) (hlanes : k.lanes = l.lanes)
    (hstations : ∀ st, k.stations.get st = l.stations.get st) : k = l := by
  cases k
  cases l
  exact congr (congr (congr (congr (congrArg Trk.mk htable) hnext) (Oct.ext_get hpatterns)) hlanes) (Oct.ext_get hstations)

section

variable {skips : StationId → Bool} {sts : List StationId}

theorem Entry.selectedBy_of_not {e : Entry} (h : e.station ∈ sts → skips e.station = false) : e.selectedBy skips sts = e :=
  if_neg fun ⟨hst, hskip⟩ => by simp [h hst] at hskip

theorem Entry.selectedBy_of_skipped {e : Entry} (h : e.station ∈ sts) (hs : skips e.station = true) :
    e.selectedBy skips sts = { e with outcome := .skipped } := if_pos ⟨h, hs⟩

theorem Entry.selectedBy_station (e : Entry) : (e.selectedBy skips sts).station = e.station := by
  unfold Entry.selectedBy
  split <;> rfl

theorem Item.selectedBy_of_not {i : Item} (h : ∀ e ∈ i.entries, e.station ∈ sts → skips e.station = false) :
    i.selectedBy skips sts = i := by
  have hentries : i.entries.map (Entry.selectedBy skips sts) = i.entries :=
    (List.map_congr_left fun e he => Entry.selectedBy_of_not (h e he)).trans (List.map_id _)
  unfold Item.selectedBy
  rw [hentries]

end

section

variable (x : Oct StationConfig) (t : Tag)

theorem Trk.selected_patterns_get (sts : List StationId) (k : Trk) (st : StationId) :
    (k.selected x t sts).patterns.get st =
      if st ∈ sts ∧ (x.get st).kind = .capture then (k.patterns.get st + 1) % (x.get st).patternLength
      else k.patterns.get st := Oct.get_ofFn _ st

theorem Trk.selected_stations_get (sts : List StationId) (k : Trk) (st : StationId) :
    (k.selected x t sts).stations.get st =
      if st ∈ sts ∧ skipsAt x k.patterns st = true then
        { k.stations.get st with skipped := (k.stations.get st).skipped + 1 }
      else k.stations.get st := Oct.get_ofFn _ st

theorem Trk.selected_nil (k : Trk) : k.selected x t [] = k := by
  refine Trk.eq_of ?_ rfl (fun st => ?_) rfl fun st => ?_
  · refine (List.map_congr_left fun i _ => ?_).trans (List.map_id _)
    split
    · exact Item.selectedBy_of_not fun _ _ h => absurd h List.not_mem_nil
    · rfl
  · simp [Trk.selected_patterns_get]
  · simp [Trk.selected_stations_get]

/-- A pattern counter is read by its own station alone. -/
theorem skipsAt_selected {k : Trk} {sts : List StationId} {st : StationId} (h : st ∉ sts) :
    skipsAt x (k.selected x t sts).patterns st = skipsAt x k.patterns st := by
  simp [skipsAt, Trk.selected_patterns_get, h]

theorem Trk.selected_cons {st : StationId} {sts : List StationId} (hst : st ∉ sts) (k : Trk) :
    (k.selected x t [st]).selected x t sts = k.selected x t (st :: sts) := by
  have hne {n : StationId} (hn : n ∈ sts) : n ∉ [st] := fun h => hst (List.mem_singleton.mp h ▸ hn)
  have hentry (e : Entry) : (e.selectedBy (skipsAt x k.patterns) [st]).selectedBy (skipsAt x (k.selected x t [st]).patterns) sts
      = e.selectedBy (skipsAt x k.patterns) (st :: sts) := by
    by_cases he : e.station ∈ sts
    · rw [Entry.selectedBy_of_not fun h => absurd h (hne he), Entry.selectedBy, Entry.selectedBy,
        skipsAt_selected x t (hne he)]
      simp [he]
    · rw [Entry.selectedBy_of_not fun h => absurd (Entry.selectedBy_station e ▸ h) he, Entry.selectedBy, Entry.selectedBy]
      simp [he]
  refine Trk.eq_of ?_ rfl (fun n => ?_) rfl fun n => ?_
  · refine (List.map_map ..).trans (List.map_congr_left fun i _ => ?_)
    by_cases hi : i.tag = t
    · have hitem : (i.selectedBy (skipsAt x k.patterns) [st]).tag = t := hi
      simp only [Function.comp_apply, if_pos hi, Item.selectedBy, List.map_map]
      exact congrArg (fun es => { i with entries := es }) (List.map_congr_left fun e _ => hentry e)
    · simp only [Function.comp_apply, if_neg hi]
  · simp only [Trk.selected_patterns_get]
    by_cases hn : n ∈ sts
    · simp [hn, List.mem_singleton.not.mp (hne hn)]
    · simp [hn]
  · simp only [Trk.selected_stations_get]
    by_cases hn : n ∈ sts
    · rw [skipsAt_selected x t (hne hn)]
      simp [hn, List.mem_singleton.not.mp (hne hn)]
    · simp [hn]

end

section

variable {x : Oct StationConfig} {k : Trk} {st : StationId} (t : Tag)

theorem Trk.selected_other (hk : (x.get st).kind ≠ .capture) : k.selected x t [st] = k := by
  have hskips : skipsAt x k.patterns st = false := by simp [skipsAt, hk]
  refine Trk.eq_of ((List.map_congr_left fun i _ => ?_).trans (List.map_id _)) rfl (fun n => ?_) rfl fun n => ?_
  · split
    · exact Item.selectedBy_of_not fun e _ h => List.mem_singleton.mp h ▸ hskips
    · rfl
  · rw [Trk.selected_patterns_get]
    exact if_neg fun ⟨hn, hc⟩ => hk (List.mem_singleton.mp hn ▸ hc)
  · rw [Trk.selected_stations_get]
    exact if_neg fun ⟨hn, hc⟩ => by simp [List.mem_singleton.mp hn, hskips] at hc

theorem Trk.selected_taken (hk : (x.get st).kind = .capture) (hm : (x.get st).patternMask.getLsbD (k.patterns.get st) = true) :
    k.selected x t [st] =
      { k with patterns := k.patterns.set st ((k.patterns.get st + 1) % (x.get st).patternLength) } := by
  have hskips : skipsAt x k.patterns st = false := by simp [skipsAt, hm]
  refine Trk.eq_of ((List.map_congr_left fun i _ => ?_).trans (List.map_id _)) rfl (fun n => ?_) rfl fun n => ?_
  · split
    · exact Item.selectedBy_of_not fun e _ h => List.mem_singleton.mp h ▸ hskips
    · rfl
  · rw [Trk.selected_patterns_get, Oct.get_set]
    by_cases hn : n = st <;> simp [hn, hk]
  · rw [Trk.selected_stations_get]
    exact if_neg fun ⟨hn, hc⟩ => by simp [List.mem_singleton.mp hn, hskips] at hc

theorem Trk.selected_skipped (hk : (x.get st).kind = .capture)
    (hm : (x.get st).patternMask.getLsbD (k.patterns.get st) = false) :
    k.selected x t [st] =
      ({ k with patterns := k.patterns.set st ((k.patterns.get st + 1) % (x.get st).patternLength) }.withEntry t st
        fun e => { e with outcome := .skipped }).counting st fun c => c.count .skipped := by
  have hskips : skipsAt x k.patterns st = true := by simp [skipsAt, hk, hm]
  refine Trk.eq_of (List.map_congr_left fun i _ => ?_) rfl (fun n => ?_) rfl fun n => ?_
  · have hentries : i.entries.map (Entry.selectedBy (skipsAt x k.patterns) [st])
        = i.entries.map fun e => if e.station = st then { e with outcome := .skipped } else e := by
      refine List.map_congr_left fun e _ => ?_
      by_cases he : e.station = st
      · exact (Entry.selectedBy_of_skipped (List.mem_singleton.mpr he) (he ▸ hskips)).trans (if_pos he).symm
      · exact (Entry.selectedBy_of_not fun h => absurd (List.mem_singleton.mp h) he).trans (if_neg he).symm
    split
    · unfold Item.selectedBy
      rw [hentries]
    · rfl
  · rw [Trk.selected_patterns_get]
    show _ = (k.patterns.set st _).get n
    rw [Oct.get_set]
    by_cases hn : n = st <;> simp [hn, hk]
  · rw [Trk.selected_stations_get]
    show _ = (k.stations.set st ((k.stations.get st).count .skipped)).get n
    rw [Oct.get_set]
    by_cases hn : n = st <;> simp [hn, hskips, StationCounters.count]

/-- A CAPTURE station's counter advances, and where the mask has no entry the station is SKIPPED (R65). -/
theorem selectPattern_eq (st : StationId) (s : State) :
    selectPattern t s st = { s with trk := s.trk.selected s.lcu.active.stations t [st] } := by
  unfold selectPattern
  by_cases hk : (s.lcu.active.stations.get st).kind = .capture
  · cases hm : (s.lcu.active.stations.get st).patternMask.getLsbD (s.trk.patterns.get st) with
    | true =>
      rw [Trk.selected_taken t hk hm]
      exact (if_pos hk).trans (if_pos hm)
    | false =>
      rw [Trk.selected_skipped t hk hm]
      exact (if_pos hk).trans (if_neg (by simp [hm]))
  · rw [Trk.selected_other t hk]
    exact if_neg hk

end

theorem foldl_selectPattern (t : Tag) (sts : List StationId) : ∀ s : State, sts.Nodup →
    sts.foldl (selectPattern t) s = { s with trk := s.trk.selected s.lcu.active.stations t sts } := by
  induction sts with
  | nil => exact fun s _ => by rw [Trk.selected_nil]; rfl
  | cons st sts ih =>
    intro s hd
    obtain ⟨hst, hd⟩ := List.nodup_cons.mp hd
    rw [List.foldl_cons, ih _ hd, selectPattern_eq, ← Trk.selected_cons _ _ hst]

end Sys2Proof.Machine

end

/-! ## Proofs: O45, the row CREATION_REQUEST -/

section

namespace Sys2Proof.Machine

open Sys2Proof

/-! ### The placed item -/

/-- The station serves the lane (R8). -/
abbrev State.acts (s : State) (n : LaneId) (st : StationId) : Prop :=
  (s.lcu.active.stations.get st).kind ≠ .off ∧ (s.lcu.active.stations.get st).lane = n

/-- The station's pattern skips the next object (R65). -/
abbrev State.skips (s : State) (st : StationId) : Bool := skipsAt s.lcu.active.stations s.trk.patterns st

/-- A new item, the patterns of its stations read (R6, R7, R8, R65). -/
def State.createdItem (r : CreationRequest) (s : State) : Item :=
  ⟨s.newTag, r.lane, s.mot.position, r.reference, r.length, r.overlong, .none, false, none,
    (allEight.filter fun st => decide (s.acts r.lane st)).map fun st =>
      ⟨st, if s.skips st then .skipped else .wait, false, false, false⟩⟩

/-- The state once the new item stands at the table's end, the patterns of its stations read (R13). -/
def State.created (r : CreationRequest) (s : State) : State :=
  { s with
    trk := { s.trk with
      table := s.trk.table ++ [s.createdItem r]
      nextTag := tagAfter s.newTag
      lanes := s.trk.lanes.set r.lane { s.trk.lanes.get r.lane with created := (s.trk.lanes.get r.lane).created + 1 }
      patterns := Oct.ofFn fun st =>
        if s.acts r.lane st ∧ (s.lcu.active.stations.get st).kind = .capture then
          (s.trk.patterns.get st + 1) % (s.lcu.active.stations.get st).patternLength
        else s.trk.patterns.get st
      stations := Oct.ofFn fun st =>
        if s.acts r.lane st ∧ s.skips st = true then
          { s.trk.stations.get st with skipped := (s.trk.stations.get st).skipped + 1 }
        else s.trk.stations.get st }
    rpt := { s.rpt with latchDue := s.rpt.latchDue || decide (s.trk.table.length = 127) } }

theorem created_patterns_get (r : CreationRequest) (s : State) (st : StationId) :
    (s.created r).trk.patterns.get st =
      if s.acts r.lane st ∧ (s.lcu.active.stations.get st).kind = .capture then
        (s.trk.patterns.get st + 1) % (s.lcu.active.stations.get st).patternLength
      else s.trk.patterns.get st := Oct.get_ofFn _ st

theorem created_stations_get (r : CreationRequest) (s : State) (st : StationId) :
    (s.created r).trk.stations.get st =
      if s.acts r.lane st ∧ s.skips st = true then
        { s.trk.stations.get st with skipped := (s.trk.stations.get st).skipped + 1 }
      else s.trk.stations.get st := Oct.get_ofFn _ st

theorem placeItem_eq (i : Item) (s : State) :
    placeItem i s = { s with
      trk := { s.trk with
        table := s.trk.table ++ [i]
        nextTag := tagAfter i.tag
        lanes := s.trk.lanes.set i.lane { s.trk.lanes.get i.lane with created := (s.trk.lanes.get i.lane).created + 1 } }
      rpt := { s.rpt with latchDue := s.rpt.latchDue || decide (s.trk.table.length = 127) } } := by
  have hfull : ((s.trk.table ++ [i]).length == Config.tableCapacity) = decide (s.trk.table.length = 127) := by
    rw [Bool.eq_iff_iff, beq_iff_eq, decide_eq_true_iff, List.length_append, List.length_singleton]
    show _ + 1 = 127 + 1 ↔ _
    omega
  rw [← hfull]
  unfold placeItem
  rw [passStatus_if]
  rfl

/-- The stations of a new item's outcome list. -/
theorem mem_newItem_stations {r : CreationRequest} {s : State} {st : StationId} :
    st ∈ (newItem r s).entries.map (·.station) ↔ s.acts r.lane st := by
  simp [newItem_stations, mem_allEight]

theorem newItem_selectedBy (r : CreationRequest) (s : State) :
    (newItem r s).selectedBy s.skips ((newItem r s).entries.map (·.station)) = s.createdItem r := by
  have hstations : (allEight.filter fun st => (s.lcu.active.stations.get st).kind != .off
      && (s.lcu.active.stations.get st).lane == r.lane) = allEight.filter fun st => decide (s.acts r.lane st) :=
    List.filter_congr fun st _ => by rw [Bool.eq_iff_iff]; simp
  have hentries : (newItem r s).entries.map (Entry.selectedBy s.skips ((newItem r s).entries.map (·.station)))
      = (s.createdItem r).entries := by
    show List.map _ (List.map _ _) = List.map _ _
    rw [hstations, List.map_map]
    refine List.map_congr_left fun st hst => ?_
    have hmem : st ∈ (newItem r s).entries.map (·.station) := mem_newItem_stations.mpr (by simpa using (List.mem_filter.mp hst).2)
    show Entry.selectedBy _ _ _ = _
    cases hs : s.skips st with
    | true => exact Entry.selectedBy_of_skipped hmem hs
    | false => exact Entry.selectedBy_of_not fun _ => hs
  exact congrArg (fun es => { newItem r s with entries := es }) hentries

/-- The creation's first steps: the item placed, and the patterns of its stations read (R13, steps 1 to 4). -/
theorem foldl_selectPattern_placeItem (r : CreationRequest) {s : State} (hfresh : s.newTag ∉ s.trk.table.map (·.tag)) :
    ((newItem r s).entries.map (·.station)).foldl (selectPattern s.newTag) (placeItem (newItem r s) s) = s.created r := by
  have hdistinct := (newItem_stations_ascending r s).imp fun h => ne_of_lt h
  have hothers : (s.trk.table.map fun i =>
      if i.tag = s.newTag then i.selectedBy s.skips ((newItem r s).entries.map (·.station)) else i) = s.trk.table :=
    (List.map_congr_left fun i hi => if_neg fun ht => hfresh (List.mem_map.mpr ⟨i, hi, ht⟩)).trans (List.map_id _)
  rw [foldl_selectPattern _ _ _ hdistinct, placeItem_eq]
  have htrk : Trk.selected s.lcu.active.stations s.newTag ((newItem r s).entries.map (·.station))
      { s.trk with
        table := s.trk.table ++ [newItem r s]
        nextTag := tagAfter s.newTag
        lanes := s.trk.lanes.set r.lane { s.trk.lanes.get r.lane with created := (s.trk.lanes.get r.lane).created + 1 } }
      = (s.created r).trk := by
    refine Trk.eq_of ?_ rfl (fun st => ?_) rfl fun st => ?_
    · show List.map _ (s.trk.table ++ [newItem r s]) = s.trk.table ++ [s.createdItem r]
      rw [List.map_append, hothers, List.map_singleton, if_pos (newItem_tag r s), newItem_selectedBy]
    · rw [Trk.selected_patterns_get]
      exact (if_congr (and_congr_left' mem_newItem_stations) rfl rfl).trans (created_patterns_get r s st).symm
    · rw [Trk.selected_stations_get]
      exact (if_congr (and_congr_left' mem_newItem_stations) rfl rfl).trans (created_stations_get r s st).symm
  exact congrArg (fun k => { s.created r with trk := k }) htrk

/-! ### The commits at creation (R14) -/

theorem commitEntry_noWait {t : Tag} {st : StationId} {s : State} (h : NoWait t st s) : commitEntry t st s = s := by
  unfold commitEntry
  split
  · rfl
  · rename_i i hi
    refine if_neg fun hw => ?_
    obtain ⟨e, he, ho⟩ := Option.map_eq_some_iff.mp hw
    exact h i (item?_mem hi) (item?_tag hi) e (List.mem_of_find?_eq_some he) (by simpa using List.find?_some he) ho

/-- The stations without a WAIT entry take no part in a run of commits. -/
theorem foldl_commitEntry_filter (t : Tag) (p : StationId → Bool) (sts : List StationId) : ∀ s : State,
    (∀ st ∈ sts, p st = false → NoWait t st s) →
    sts.foldl (fun u st => commitEntry t st u) s = (sts.filter p).foldl (fun u st => commitEntry t st u) s := by
  induction sts with
  | nil => exact fun _ _ => rfl
  | cons st sts ih =>
    intro s h
    have hrest := ih (commitEntry t st s) fun n hn hp =>
      (commitEntry_evolves t st s).noWait t n (h n (List.mem_cons_of_mem st hn) hp)
    rw [List.foldl_cons, hrest]
    cases hp : p st with
    | true => rw [List.filter_cons_of_pos hp, List.foldl_cons]
    | false => rw [List.filter_cons_of_neg (by simp [hp]), commitEntry_noWait (h st (List.mem_cons_self ..) hp)]

theorem created_noWait (r : CreationRequest) {s : State} (hfresh : s.newTag ∉ s.trk.table.map (·.tag)) {st : StationId}
    (hs : s.skips st = true) : NoWait s.newTag st (s.created r) := by
  intro i hi ht e he hst
  rcases List.mem_append.mp hi with hi | hi
  · exact absurd (List.mem_map.mpr ⟨i, hi, ht⟩) hfresh
  · rw [List.mem_singleton.mp hi] at he
    obtain ⟨n, -, rfl⟩ := List.mem_map.mp he
    have hn : n = st := hst
    subst hn
    show (if s.skips n then StationOutcome.skipped else .wait) ≠ .wait
    rw [hs]
    exact StationOutcome.noConfusion

/-- The stations whose entries are committed at creation (R14). -/
def State.immediate (r : CreationRequest) (s : State) : List StationId :=
  allEight.filter fun st =>
    decide (s.acts r.lane st ∧ s.skips st = false ∧ (s.lcu.active.stations.get st).commitPoint r.reference ≤ s.mot.position)

theorem immediateStations_filter (r : CreationRequest) {s u : State} (hu : u.lcu.active = s.lcu.active) :
    (immediateStations (newItem r s) u).filter (fun st => !s.skips st) = s.immediate r := by
  unfold immediateStations
  rw [newItem_stations, hu, List.filter_filter, List.filter_filter]
  refine List.filter_congr fun st _ => ?_
  show (!s.skips st && decide ((s.lcu.active.stations.get st).commitPoint r.reference ≤ s.mot.position) && _) = _
  rw [Bool.eq_iff_iff]
  cases s.skips st <;> simp [and_comm]

theorem createItem_eq (r : CreationRequest) {s : State} (hfresh : s.newTag ∉ s.trk.table.map (·.tag)) :
    createItem r s = retireIfDone s.newTag
      ((s.immediate r).foldl (fun u st => commitEntry s.newTag st u) (announceItem (newItem r s) (s.created r))) := by
  have hactive : (announceItem (newItem r s) (s.created r)).lcu.active = s.lcu.active := (announceItem_keeps _ _).active
  have hskipped : ∀ st ∈ immediateStations (newItem r s) (announceItem (newItem r s) (s.created r)),
      (!s.skips st) = false → NoWait s.newTag st (announceItem (newItem r s) (s.created r)) := fun st _ hst =>
    (announceItem_evolves _ _).noWait _ _ (created_noWait r hfresh (by simpa using hst))
  have hcommits := foldl_commitEntry_filter s.newTag (fun st => !s.skips st) _ _ hskipped
  rw [immediateStations_filter r hactive] at hcommits
  rw [← hcommits, ← foldl_selectPattern_placeItem r hfresh]
  rfl

/-! ### The request taken -/

/-- The state with these creation requests in transit. -/
def State.withRequests (l : List CreationRequest) (s : State) : State := { s with requests := l }

theorem takeRequest_none {s : State} {n : LaneId} (h : ∀ r ∈ s.requests, r.lane ≠ n) : takeRequest n s = s := by
  have hnone : (s.requests.find? fun r => r.lane == n) = none := List.find?_eq_none.mpr fun r hr => by simpa using h r hr
  unfold takeRequest
  rw [hnone]

/-- The lane's oldest request is taken from among those in transit (R127). -/
theorem takeRequest_oldest {s : State} {before after : List CreationRequest} {r : CreationRequest}
    (hs : s.requests = before ++ r :: after) (hb : ∀ x ∈ before, x.lane ≠ r.lane) :
    takeRequest r.lane s = takeCreation r (s.withRequests (before ++ after)) := by
  have hfind : (s.requests.find? fun x => x.lane == r.lane) = some r := by
    rw [hs, List.find?_append, List.find?_eq_none.mpr fun x hx => by simpa using hb x hx, Option.none_or,
      List.find?_cons_of_pos (p := fun x : CreationRequest => x.lane == r.lane) (beq_self_eq_true r.lane)]
  have herase : s.requests.erase r = before ++ after := by
    rw [hs, List.erase_append_right _ fun h => hb r h rfl, List.erase_cons_head]
  unfold takeRequest
  rw [hfind]
  exact congrArg (fun l => takeCreation r (s.withRequests l)) herase

/-- An event of TRK in a state where CMD takes no frame only ends. -/
theorem settle_of_keeps {s u : State} (h : NoFrameTaken s) (hk : KeepsBeyondTracking s u) : settle u = endEvent u := by
  refine settle_noFrame ?_
  unfold NoFrameTaken
  rw [hk.cmd, hk.lnk]
  exact h

/-- Where neither a notice nor a reply waits for the transmitter, the end of an event at most begins a report (R166). -/
theorem endEvent_lnk {s : State} (h : s.lnk.sending = none → s.lnk.notice = none ∧ s.lnk.replies = []) :
    (endEvent s).lnk = { s.lnk with sending := (endEvent s).lnk.sending } := by
  have harbitrate (u : State) (hu : u.lnk.sending = none → u.lnk.notice = none ∧ u.lnk.replies = []) :
      (arbitrate u).lnk = { u.lnk with sending := (arbitrate u).lnk.sending } := by
    by_cases hs : u.lnk.sending.isSome = true
    · rw [arbitrate_busy hs]
    · obtain ⟨hn, hr⟩ := hu (by simpa using hs)
      unfold arbitrate
      rw [if_neg hs, hn, hr]
      cases u.rpt.offered <;> rfl
  have hlatch : (latch s).lnk = s.lnk := (latch_keeps s).lnk
  have := harbitrate (latch s) (by rw [hlatch]; exact h)
  rw [hlatch] at this
  exact this

/-! ### The row -/

section

variable {s : State} {r : CreationRequest} {before after : List CreationRequest}

theorem exec_creationRequest (hs : s.requests = before ++ r :: after) (hb : ∀ x ∈ before, x.lane ≠ r.lane) :
    exec (.creationRequest r.lane) s = .next (settle (takeCreation r (s.withRequests (before ++ after)))) := by
  show Host.Outcome.next (settle (takeRequest r.lane s)) = _
  rw [takeRequest_oldest hs hb]

theorem takeCreation_ignored (h : s.lcu.line ≠ .run) :
    takeCreation r s = countLane r.lane (fun c => { c with ignored := c.ignored + 1 }) s := if_pos h

theorem takeCreation_lost (h : s.lcu.line = .run) (hfull : 128 ≤ s.trk.table.length) :
    takeCreation r s =
      passFault (.tableOverflow r.lane r.reference) (countLane r.lane (fun c => { c with lost := c.lost + 1 }) s) :=
  (if_neg (not_not.mpr h)).trans (if_pos hfull)

theorem takeCreation_creates (h : s.lcu.line = .run) (hroom : s.trk.table.length < 128) : takeCreation r s = createItem r s :=
  (if_neg (not_not.mpr h)).trans (if_neg (not_le.mpr hroom))

/-- The row that creates an item: what it does up to the retirement check, and the end of its event (R13). -/
theorem exec_creates (hq : Quiet s) (hs : s.requests = before ++ r :: after) (hb : ∀ x ∈ before, x.lane ≠ r.lane)
    (h : s.lcu.line = .run) (ht : TableInv s) (hroom : s.trk.table.length < 128) :
    exec (.creationRequest r.lane) s = .next (endEvent (retireIfDone s.newTag
      ((s.immediate r).foldl (fun u st => commitEntry s.newTag st u)
        (announceItem (newItem r s) ((s.withRequests (before ++ after)).created r))))) := by
  obtain ⟨-, hfresh, -⟩ := newTag_spec ht.1 ht.2.2.2
  have hcreate : takeCreation r (s.withRequests (before ++ after)) = createItem r (s.withRequests (before ++ after)) :=
    takeCreation_creates h hroom
  have hnone : NoFrameTaken (s.withRequests (before ++ after)) := hq.2
  rw [exec_creationRequest hs hb, hcreate, settle_of_keeps hnone (createItem_keeps _ _)]
  exact congrArg (fun u => Host.Outcome.next (endEvent u)) (createItem_eq r (s := s.withRequests (before ++ after)) hfresh)

/-- A new item with an entry not skipped has an entry in WAIT. -/
theorem createdItem_open {st : StationId} (ha : s.acts r.lane st) (hs : s.skips st = false) : (s.createdItem r).isDone = false := by
  refine Bool.eq_false_iff.mpr fun hd => ?_
  have hmem : (⟨st, if s.skips st then .skipped else .wait, false, false, false⟩ : Entry) ∈ (s.createdItem r).entries :=
    List.mem_map.mpr ⟨st, List.mem_filter.mpr ⟨mem_allEight st, by simpa using ha⟩, rfl⟩
  have hfinal := List.all_eq_true.mp hd _ hmem
  rw [hs] at hfinal
  exact Bool.noConfusion hfinal

theorem announceItem_keepsReports (i : Item) (s : State) : KeepsBeyondReports s (announceItem i s) := by
  unfold announceItem
  split
  · exact passEvent_keeps _ s
  · exact keeps_rpt s s.rpt

theorem announceItem_lcu (i : Item) (s : State) : (announceItem i s).lcu = s.lcu := by
  unfold announceItem
  split
  · rw [passEvent_eq]
    rfl
  · rfl

/-- The new item stays where it is open and no station commits at once. -/
theorem retireIfDone_created (ht : TableInv s) {st : StationId} (ha : s.acts r.lane st) (hs : s.skips st = false) :
    retireIfDone s.newTag (announceItem (newItem r s) (s.created r)) = announceItem (newItem r s) (s.created r) := by
  obtain ⟨-, hfresh, -⟩ := newTag_spec ht.1 ht.2.2.2
  have htable : (announceItem (newItem r s) (s.created r)).trk.table = s.trk.table ++ [s.createdItem r] :=
    congrArg Trk.table (announceItem_keepsReports _ _).trk
  have hd : ((announceItem (newItem r s) (s.created r)).trk.table.map (·.tag)).Nodup := by
    rw [htable, List.map_append, List.map_singleton, List.nodup_append]
    refine ⟨ht.2.1, List.nodup_singleton _, fun a ha b hb hab => ?_⟩
    rw [hab, List.mem_singleton.mp hb] at ha
    exact hfresh ha
  have hi : s.createdItem r ∈ (announceItem (newItem r s) (s.created r)).trk.table := by
    rw [htable]
    exact List.mem_append_right _ (List.mem_singleton_self _)
  exact retireIfDone_open (item?_of_mem hd hi) (createdItem_open ha hs)

end

/-- Settles O45: the creation is one equation, and the item that stays is its case without a commit. -/
theorem creationRequestMakesAnItem : Obligations.CreationRequestMakesAnItem := by
  refine ⟨fun s n hq => ⟨fun hnone => ?_, ?_⟩, fun t => rfl, fun s hl hn => ?_⟩
  · show Host.Outcome.next (settle (takeRequest n s)) = _
    rw [takeRequest_none hnone, settle_quiet hq]
  · rintro before after r hs rfl hb
    refine ⟨fun hl => ?_, fun hl hfull => ?_, fun hl ht hroom hopen hahead => ?_, fun hl ht hroom => ?_⟩
    · rw [exec_creationRequest hs hb, takeCreation_ignored (by exact hl)]
      exact congrArg Host.Outcome.next (settle_quiet (by exact hq))
    · rw [exec_creationRequest hs hb, takeCreation_lost (by exact hl) (by exact hfull)]
      have hnone : NoFrameTaken (countLane r.lane (fun c => { c with lost := c.lost + 1 }) (s.withRequests (before ++ after))) :=
        hq.2
      rw [settle_of_keeps hnone (passFault_keeps _ _).toKeepsBeyondTracking]
      rfl
    · obtain ⟨st, ha, hskip⟩ := hopen
      have himmediate : s.immediate r = [] := List.filter_eq_nil_iff.mpr fun n _ hn => by
        obtain ⟨hacts, -, hle⟩ := of_decide_eq_true hn
        exact absurd (hahead n hacts) (not_lt.mpr hle)
      have hexec := exec_creates hq hs hb hl ht hroom
      rw [himmediate, List.foldl_nil] at hexec
      have hstays : retireIfDone s.newTag (announceItem (newItem r s) ((s.withRequests (before ++ after)).created r))
          = announceItem (newItem r s) ((s.withRequests (before ++ after)).created r) :=
        retireIfDone_created (s := s.withRequests (before ++ after)) ht ha hskip
      rw [hstays] at hexec
      have hk := announceItem_keepsReports (newItem r s) ((s.withRequests (before ++ after)).created r)
      obtain ⟨hpending, hnow, hpins, hlcu, hmot, hdet, hrequests, htrk, hout, hcmd, hdrawn, -⟩ :=
        endEvent_keeps (announceItem (newItem r s) ((s.withRequests (before ++ after)).created r))
      have hlnk := endEvent_lnk (s := announceItem (newItem r s) ((s.withRequests (before ++ after)).created r)) fun h => by
        rw [hk.lnk] at h ⊢
        exact ⟨(hq.1.2.1 h).1, (hq.1.2.1 h).2.1⟩
      rw [hk.lnk] at hlnk
      rw [hk.trk] at htrk
      refine ⟨_, hexec, congrArg Trk.table htrk, congrArg Trk.nextTag htrk, congrArg Trk.lanes htrk, fun n => ?_, fun n => ?_,
        hlcu.trans (announceItem_lcu _ _), hmot.trans hk.mot, hdet.trans hk.det, hrequests.trans hk.requests,
        hout.trans hk.out, hcmd.trans hk.cmd, hlnk, hpending.trans hk.pending, hnow.trans hk.now, hpins.trans hk.pins,
        hdrawn.trans hk.drawn⟩
      · rw [htrk]
        exact created_patterns_get r (s.withRequests (before ++ after)) n
      · rw [htrk]
        exact created_stations_get r (s.withRequests (before ++ after)) n
    · have hdue : (s.rpt.latchDue || decide (s.trk.table.length = 127)) = decide (s.trk.table.length = 127) := by
        rw [hq.1.1, Bool.false_or]
      have hplaced : (s.withRequests (before ++ after)).created r = { (s.withRequests (before ++ after)).created r with
          rpt := { s.rpt with latchDue := decide (s.trk.table.length = 127) } } :=
        congrArg (fun due => { (s.withRequests (before ++ after)).created r with rpt := { s.rpt with latchDue := due } }) hdue
      rw [exec_creates hq hs hb hl ht hroom, hplaced]
      rfl
  · obtain ⟨hne, hfree, k, hk, hheld⟩ := newTag_spec hl hn
    exact ⟨hne, fun i hi h => hfree (List.mem_map.mpr ⟨i, hi, h⟩), k, hk, fun j hj => List.mem_map.mp (hheld j hj)⟩

end Sys2Proof.Machine

end

/-! ## Proofs: O2 and O3, the reset -/

section

namespace Sys2Proof.Machine

open Sys2Proof

/-! ### Pin reset -/

/-- After a pin reset nothing waits, and nothing is reported (R169, R187). -/
theorem pinResetPart_quiet (rate1 rate0 : Bool) (s : State) : Quiet (pinResetPart rate1 rate0 s) :=
  ⟨⟨rfl, fun _ => ⟨rfl, rfl, rfl⟩, rfl⟩, .inr (.inl rfl)⟩

theorem exec_pinReset (rate1 rate0 : Bool) (s : State) :
    exec (.pinReset rate1 rate0) s = .next (pinResetPart rate1 rate0 s) :=
  congrArg Host.Outcome.next (settle_quiet (pinResetPart_quiet rate1 rate0 s))

theorem strapRate_eq (rate1 rate0 : Bool) : strapRate rate1 rate0 = (if rate1 then 2 else 0) + (if rate0 then 1 else 0) := by
  cases rate1 <;> cases rate0 <;> rfl

/-- Settles O2: the row ends in the reset part, whose values are read off block by block. -/
theorem pinResetSetsEveryBlock : Obligations.PinResetSetsEveryBlock := by
  intro s rate1 rate0
  refine ⟨_, exec_pinReset rate1 rate0 s, rfl, rfl, fun n => Quad.get_same _ n, rfl, rfl, rfl, fun n => Oct.get_same _ n,
    fun n => Quad.get_same _ n, fun n => Oct.get_same _ n, fun n => Oct.get_same _ n, ?_, rfl, rfl, rfl, rfl, rfl, rfl, rfl,
    fun n => Quad.get_same _ n, fun n => Oct.get_ofFn _ n, fun n => Oct.get_same _ n, rfl⟩
  exact congrArg Lnk.reset (strapRate_eq rate1 rate0)

/-! ### The reset state -/

/-- The model's reset state is what a pin reset of it leaves (notes/assumptions/2.md). -/
theorem reset_settled : Settled State.reset := (pinResetPart_quiet false false State.reset).1

theorem outputReset_ok {p : Polarity} (h : p = .activeHigh) : Output.reset.Ok p := by
  subst h
  decide

theorem laneReset_ok (c : LaneConfig) : Lane.reset.Ok c := ⟨by decide, fun _ => ⟨rfl, rfl⟩⟩

theorem reset_outputsInv : OutputsInv State.reset := by
  intro n _
  have hout : State.reset.out.get n = .reset := Oct.get_same _ n
  rw [hout]
  exact outputReset_ok (congrArg OutputConfig.polarity (Oct.get_same _ n))

theorem reset_lanesInv : LanesInv State.reset := by
  intro n _
  have hdet : State.reset.det.get n = .reset := Quad.get_same _ n
  rw [hdet]
  exact laneReset_ok _

/-- Settles O3: every queue and table of the reset state is empty. -/
theorem resetStateMeetsTheInvariants : Obligations.ResetStateMeetsTheInvariants := by
  have htable : State.reset.trk.table = [] := rfl
  refine ⟨reset_settled, tableInv_of_empty htable (by decide), ?_, fun _ => htable, ?_, ?_, reset_outputsInv, ?_, ?_, ?_,
    reset_lanesInv⟩
  · intro i hi
    exact absurd hi List.not_mem_nil
  · intro i hi
    exact absurd hi List.not_mem_nil
  · exact ⟨Nat.zero_le _, fun _ => Nat.zero_le _⟩
  · exact ⟨Nat.zero_le _, Nat.zero_le _, Nat.zero_le _, Nat.zero_le _⟩
  · exact ⟨Nat.zero_le _, rfl, rfl, List.Pairwise.nil⟩
  · exact ⟨Nat.zero_le _, Nat.zero_le _, fun _ => Nat.zero_lt_succ _⟩

end Sys2Proof.Machine

end

/-! ## Proofs: O26 and O27, VERDICT and its pairs -/

section

namespace Sys2Proof.Machine

open Sys2Proof

/-! ### The pairs of a payload (R200) -/

/-- A tag is its two bytes as a payload carries them, the low one first (R197). -/
theorem tag_of_littleEndian (t : Tag) : BitVec.ofNat 8 (t.toNat / 256) ++ BitVec.ofNat 8 t.toNat = t := by
  apply BitVec.eq_of_toNat_eq
  have ht := t.isLt
  rw [BitVec.toNat_append, BitVec.toNat_ofNat, BitVec.toNat_ofNat, ← Nat.shiftLeft_add_eq_or_of_lt (Nat.mod_lt _ (by decide))]
  omega

theorem pairBytes_cons (t : Tag) (b : Byte) (pairs : List (Tag × Byte)) :
    pairBytes ((t, b) :: pairs) = BitVec.ofNat 8 t.toNat :: BitVec.ofNat 8 (t.toNat / 256) :: b :: pairBytes pairs := rfl

theorem length_pairBytes (pairs : List (Tag × Byte)) : (pairBytes pairs).length = 3 * pairs.length := by
  induction pairs with
  | nil => rfl
  | cons p pairs ih =>
    rw [pairBytes_cons]
    simp only [List.length_cons, ih]
    omega

theorem pairsOf_pairBytes (pairs : List (Tag × Byte)) : pairsOf (pairBytes pairs) = pairs := by
  induction pairs with
  | nil => rfl
  | cons p pairs ih => rw [pairBytes_cons, pairsOf, ih, tag_of_littleEndian]

theorem verdict_admits_pairBytes {pairs : List (Tag × Byte)} (hne : pairs ≠ []) (hlen : pairs.length ≤ 32) :
    Kind.verdict.admits (pairBytes pairs).length = true := by
  have hpos := List.length_pos_iff.mpr hne
  simp only [Kind.admits, length_pairBytes, Bool.and_eq_true, beq_iff_eq, decide_eq_true_eq]
  omega

/-- Settles O26: a VERDICT is completed by no owner, so it begins, and its payload's bytes spell its pairs. -/
theorem verdictBegins : Obligations.VerdictBegins := by
  intro s q pairs hne hlen h
  have hbegin := receiveFrame_begins h (by decide) (by decide) (verdict_admits_pairBytes hne hlen) rfl
  rw [exec_frame rfl, hbegin]
  show Host.Outcome.next { s.taking q with
    cmd := .judging ⟨0x20, q, frameCrc 0x20 q (pairBytes pairs), false⟩ (pairsOf (pairBytes pairs)) [] } = _
  rw [pairsOf_pairBytes]
  rfl

/-! ### A pair taken at TRK (R35 to R41) -/

theorem Trk.withItem_congr {k : Trk} {t : Tag} {f g : Item → Item} (h : ∀ i ∈ k.table, i.tag = t → f i = g i) :
    k.withItem t f = k.withItem t g := by
  have htable : (k.table.map fun i => if i.tag = t then f i else i) = k.table.map fun i => if i.tag = t then g i else i := by
    refine List.map_congr_left fun i hi => ?_
    by_cases ht : i.tag = t
    · rw [if_pos ht, if_pos ht, h i hi ht]
    · rw [if_neg ht, if_neg ht]
  unfold Trk.withItem
  rw [htable]

theorem Trk.withItem_id (k : Trk) (t : Tag) : (k.withItem t fun i => i) = k := by
  simp [Trk.withItem]

theorem finOf_byteOf (c : VerdictClass) : finOf 16 (byteOf c.val) = some c := by
  fin_cases c <;> rfl

theorem byteOf_toNat (b : Byte) : byteOf b.toNat = b := (BitVec.ofNat_toNat 8 b).trans (BitVec.setWidth_eq b)

section

variable {s : State} {t : Tag} {b : Byte} {c : VerdictClass} {i : Item} {f : Item → Item}

theorem takePair_badClass (h : 15 < b.toNat) : takePair t b s = (s, .badArgument) := by
  have hb : finOf 16 b = none := dif_neg (by omega)
  unfold takePair
  rw [hb]

theorem takePair_badTag : takePair 0 b s = (s, .badArgument) := by
  unfold takePair
  split <;> rfl

theorem takePair_notFound (ht : t ≠ 0) (h : ∀ i ∈ s.trk.table, i.tag ≠ t) :
    takePair t (byteOf c.val) s = (s, .notFound) := by
  unfold takePair
  rw [finOf_byteOf]
  dsimp only
  rw [if_neg ht, item?_none.mpr h]

/-- A pair that finds its item, told by a change of records that agrees with the pair's on this one item: where no two items
have one tag, no other record is changed (R36). -/
theorem takePair_found (ht : t ≠ 0) (hd : (s.trk.table.map (·.tag)).Nodup) (hi : i ∈ s.trk.table) (hit : i.tag = t)
    (hf : i.afterPair c = f i) :
    takePair t (byteOf c.val) s =
      (if pairResult i c = .tooLate then
          countLane i.lane (fun n => { n with late := n.late + 1 }) { s with trk := s.trk.withItem t f }
        else { s with trk := s.trk.withItem t f }, pairResult i c) := by
  have hitem : s.item? t = some i := hit ▸ item?_of_mem hd hi
  have hmap : mapItem t (fun j => j.afterPair c) s = { s with trk := s.trk.withItem t f } := by
    have hk : (s.trk.withItem t fun j => j.afterPair c) = s.trk.withItem t f := by
      refine Trk.withItem_congr fun j hj hjt => ?_
      rw [List.inj_on_of_nodup_map hd hj hi (hjt.trans hit.symm), hf]
    rw [← hk]
    rfl
  unfold takePair
  rw [finOf_byteOf]
  dsimp only
  rw [if_neg ht, hitem, ← hmap]

/-- A pair whose result is not TOO_LATE counts nothing. -/
theorem takePair_inTime {r : Result} (ht : t ≠ 0) (hd : (s.trk.table.map (·.tag)).Nodup) (hi : i ∈ s.trk.table)
    (hit : i.tag = t) (hf : i.afterPair c = f i) (hr : pairResult i c = r) (hlate : r ≠ .tooLate) :
    takePair t (byteOf c.val) s = ({ s with trk := s.trk.withItem t f }, r) := by
  rw [takePair_found ht hd hi hit hf, hr, if_neg hlate]

end

/-- TRK takes a pair as the pair's rule says. -/
theorem takePair_of_rule {s : State} {t : Tag} {b : Byte} {r : Result} {k : Trk}
    (hd : (s.trk.table.map (·.tag)).Nodup) (h : PairRule s.trk t b r k) : takePair t b s = ({ s with trk := k }, r) := by
  cases h with
  | badClass _ hb => exact takePair_badClass hb
  | badTag _ ht =>
    subst ht
    exact takePair_badTag
  | notFound c ht hn => exact takePair_notFound ht hn
  | accepted c ht i hi hit hv =>
    exact takePair_inTime ht hd hi hit (by simp [Item.afterPair, hv]) (by simp [pairResult, hv]) (by decide)
  | amended c d ht i hi hit hv hdc =>
    exact takePair_inTime ht hd hi hit (by simp [Item.afterPair, hv, hdc]) (by simp [pairResult, hv, hdc]) (by decide)
  | already c ht i hi hit hv =>
    have hsame : i.afterPair c = i := by rcases hv with hv | hv <;> simp [Item.afterPair, hv]
    have hres : pairResult i c = .already := by rcases hv with hv | hv <;> simp [pairResult, hv]
    rw [takePair_inTime (f := fun i => i) ht hd hi hit hsame hres (by decide), Trk.withItem_id]
  | conflict c d ht i hi hit hv hdc =>
    have hsame : i.afterPair c = i := by simp [Item.afterPair, hv]
    have hres : pairResult i c = .conflict := by simp [pairResult, hv, hdc]
    rw [takePair_inTime (f := fun i => i) ht hd hi hit hsame hres (by decide), Trk.withItem_id]
  | tooLate c d ht i hi hit hv =>
    have hres : pairResult i c = .tooLate := by simp [pairResult, hv]
    rw [takePair_found (f := fun i => { i with late := some (i.late.getD c) }) ht hd hi hit (by simp [Item.afterPair, hv]), hres]
    rfl

/-- Every pair falls under a rule: the class and the tag are judged first, then whether an item is found, then its verdict
state. -/
theorem exists_pairRule (k : Trk) (t : Tag) (b : Byte) : ∃ r k', PairRule k t b r k' := by
  by_cases hb : 15 < b.toNat
  · exact ⟨_, _, .badClass b hb⟩
  by_cases ht : t = 0
  · exact ⟨_, _, .badTag b ht⟩
  obtain ⟨c, rfl⟩ : ∃ c : VerdictClass, byteOf c.val = b := ⟨⟨b.toNat, by omega⟩, byteOf_toNat b⟩
  by_cases hn : ∀ i ∈ k.table, i.tag ≠ t
  · exact ⟨_, _, .notFound c ht hn⟩
  push Not at hn
  obtain ⟨i, hi, hit⟩ := hn
  cases hv : i.verdict with
  | none => exact ⟨_, _, .accepted c ht i hi hit hv⟩
  | opened d =>
    by_cases hd : d = c
    · exact ⟨_, _, .already c ht i hi hit (.inl (hd ▸ hv))⟩
    · exact ⟨_, _, .amended c d ht i hi hit hv hd⟩
  | fixed d =>
    by_cases hd : d = c
    · exact ⟨_, _, .already c ht i hi hit (.inr (hd ▸ hv))⟩
    · exact ⟨_, _, .conflict c d ht i hi hit hv hd⟩
  | defaulted d => exact ⟨_, _, .tooLate c d ht i hi hit hv⟩

/-! ### The end of a command that takes time (R157, R165) -/

@[simp] theorem withReply_hold (l : Lnk) (r : Reply) : (l.withReply r).hold = l.hold := by
  unfold Lnk.withReply
  split <;> rfl

/-- In a settled part the reply is queued or begun, and the waiting frames are taken from there. -/
theorem settle_finishTaken_reply {s : State} (h : Settled s) {c : Taken} (a : Answer) (hc : c.discard = false) :
    settle (finishTaken c a s) = takeFrames s.lnk.received.length { s with
      cmd := .idle
      lnk := { s.lnk with cache := some ⟨c.seq, c.crc, replyPayload c.kind a⟩ }.withReply
        ⟨c.seq, replyPayload c.kind a, a.effect⟩ } := by
  have hidle : Settled { s with cmd := .idle } := h
  have hfinish : finishTaken c a s = answerTaken c.kind c.seq c.crc a { s with cmd := .idle } := by
    unfold finishTaken
    rw [hc]
    rfl
  have hend := endEvent_answerTaken (s := { s with cmd := .idle }) c.kind c.seq c.crc a
    fun hn => ⟨(h.2.1 hn).1, (h.2.1 hn).2.1⟩
  rw [hfinish]
  exact settle_of_endEvent (hend.trans (concluded_of_settled hidle (withReply_hold _ _)))

/-- The reply dropped after a link reset, CMD is IDLE and takes the waiting frames. -/
theorem settle_finishTaken_discard {s : State} (h : Settled s) {c : Taken} (a : Answer) (hc : c.discard = true) :
    settle (finishTaken c a s) = takeFrames s.lnk.received.length { s with cmd := .idle } := by
  have hfinish : finishTaken c a s = { s with cmd := .idle } := if_pos hc
  rw [hfinish]
  exact settle_of_endEvent (settled_endEvent (s := { s with cmd := .idle }) h)

/-! ### The row VERDICT_PAIR (R34) -/

section

variable {s s' : State} {c : Taken} {t : Tag} {b : Byte} {left : List (Tag × Byte)} {results : List Result} {r : Result}

theorem takeNextPair_more (hc : s.cmd = .judging c ((t, b) :: left) results) (hp : takePair t b s = (s', r))
    (hl : left ≠ []) : takeNextPair s = { s' with cmd := .judging c left (results ++ [r]) } := by
  unfold takeNextPair
  rw [hc]
  dsimp only
  rw [hp, if_neg (by simpa using hl)]

theorem takeNextPair_last (hc : s.cmd = .judging c [(t, b)] results) (hp : takePair t b s = (s', r)) :
    takeNextPair s = finishTaken c (verdictAnswer (results ++ [r])) s' := by
  unfold takeNextPair
  rw [hc]
  dsimp only
  rw [hp]
  rfl

end

/-- One result a pair, under their number (R203). -/
theorem replyPayload_verdictAnswer (kind : Byte) (results : List Result) (r : Result) :
    replyPayload kind (verdictAnswer (results ++ [r])) =
      [kind, 0, byteOf (results.length + 1)] ++ (results ++ [r]).map Result.code := by
  unfold verdictAnswer
  rw [List.length_append]
  rfl

/-- Settles O27: TRK takes the pair by its rule and leaves the part settled, so that the event only ends; the last pair ends
the command. -/
theorem verdictPairFollowsItsRule : Obligations.VerdictPairFollowsItsRule := by
  refine ⟨fun s c t b left results hc hs ht r k hrule => ?_, exists_pairRule⟩
  obtain ⟨-, hnodup, -, -⟩ := ht
  have hpair := takePair_of_rule hnodup hrule
  have hset : Settled { s with trk := k } := hs
  have hexec {u : State} (h : settle (takeNextPair s) = u) : exec .verdictPair s = .next u :=
    congrArg Host.Outcome.next h
  refine ⟨fun hl => hexec ?_, fun hl hd => hexec ?_, fun hl hd => hexec ?_⟩
  · rw [takeNextPair_more hc hpair hl]
    exact settle_quiet ⟨hset, .inl (fun h => nomatch h)⟩
  · subst hl
    rw [takeNextPair_last hc hpair, settle_finishTaken_reply hset _ hd, replyPayload_verdictAnswer]
    rfl
  · subst hl
    rw [takeNextPair_last hc hpair, settle_finishTaken_discard hset _ hd]

end Sys2Proof.Machine

end

/-! ## Proofs: O46, the commit of an entry -/

section

namespace Sys2Proof.Machine

open Sys2Proof

section

variable {s : State} {t : Tag} {i : Item} {st : StationId}

/-- An entry that is not in WAIT is left (R10). -/
theorem commitEntry_other (hi : s.item? t = some i) (hw : (i.entry? st).map (·.outcome) ≠ some .wait) :
    commitEntry t st s = s := by
  unfold commitEntry
  rw [hi]
  exact if_neg hw

theorem commitEntry_capture (hi : s.item? t = some i) (hw : (i.entry? st).map (·.outcome) = some .wait)
    (hk : (s.lcu.active.stations.get st).kind = .capture) :
    commitEntry t st s =
      handRequest (s.lcu.active.stations.get st).output (requestFor i st (s.lcu.active.stations.get st)) s := by
  simp only [commitEntry, hi, hw, hk, if_true]

/-- An ACTUATE station reads its action set at the class the first decision leaves (R17, R18, R44). -/
theorem commitEntry_actuate (hi : s.item? t = some i) (hw : (i.entry? st).map (·.outcome) = some .wait)
    (hk : (s.lcu.active.stations.get st).kind = .actuate) :
    commitEntry t st s =
      if (s.lcu.active.stations.get st).actionSet.getLsbD (decidedClass i s).val then
        handRequest (s.lcu.active.stations.get st).output (requestFor i st (s.lcu.active.stations.get st)) (firstDecision i s)
      else setOutcome t st .passed (firstDecision i s) := by
  simp only [commitEntry, hi, hw, hk, if_true]

end

/-- Settles O46: the decision is made by the item's verdict state, and the entry for the decided class says what follows. -/
theorem commitsDecideAndRequest : Obligations.CommitsDecideAndRequest := by
  intro s t i hi st
  obtain rfl := item?_tag hi
  refine ⟨commitEntry_other hi, fun hw => ⟨fun hk => commitEntry_capture hi hw hk, fun hk => ?_⟩⟩
  intro default decided
  have hdecided : decided = (decidedClass i s, firstDecision i s) := by
    unfold decided decidedClass firstDecision
    cases i.verdict <;> rfl
  rw [hdecided]
  refine ⟨fun hact => ?_, fun hpass => ?_⟩
  · rw [commitEntry_actuate hi hw hk, if_pos hact]
    rfl
  · rw [commitEntry_actuate hi hw hk, hpass]
    rfl

end Sys2Proof.Machine

end

/-! ## Proofs: O22, the configuration objects as bytes (R197, R201, R202) -/

section

namespace Sys2Proof.Machine

open Sys2Proof

/-! ### The codes (R199, R202) -/

theorem truthOf_eq_some {b : Byte} {x : Bool} : truthOf b = some x ↔ boolByte x = b := by
  constructor
  · unfold truthOf; split_ifs <;> rintro ⟨⟩ <;> exact Eq.symm ‹_›
  · rintro rfl; cases x <;> rfl

theorem sourceOf_eq_some {b : Byte} {x : Source} : sourceOf b = some x ↔ x.code = b := by
  constructor
  · unfold sourceOf; split_ifs <;> rintro ⟨⟩ <;> exact Eq.symm ‹_›
  · rintro rfl; cases x <;> rfl

theorem polarityOf_eq_some {b : Byte} {x : Polarity} : polarityOf b = some x ↔ x.code = b := by
  constructor
  · unfold polarityOf; split_ifs <;> rintro ⟨⟩ <;> exact Eq.symm ‹_›
  · rintro rfl; cases x <;> rfl

theorem laneModeOf_eq_some {b : Byte} {x : LaneMode} : laneModeOf b = some x ↔ x.code = b := by
  constructor
  · unfold laneModeOf; split_ifs <;> rintro ⟨⟩ <;> exact Eq.symm ‹_›
  · rintro rfl; cases x <;> rfl

theorem stationKindOf_eq_some {b : Byte} {x : StationKind} : stationKindOf b = some x ↔ x.code = b := by
  constructor
  · unfold stationKindOf; split_ifs <;> rintro ⟨⟩ <;> exact Eq.symm ‹_›
  · rintro rfl; cases x <;> rfl

theorem durationModeOf_eq_some {b : Byte} {x : DurationMode} : durationModeOf b = some x ↔ x.code = b := by
  constructor
  · unfold durationModeOf; split_ifs <;> rintro ⟨⟩ <;> exact Eq.symm ‹_›
  · rintro rfl; cases x <;> rfl

theorem overlapOf_eq_some {b : Byte} {x : Overlap} : overlapOf b = some x ↔ x.code = b := by
  constructor
  · unfold overlapOf; split_ifs <;> rintro ⟨⟩ <;> exact Eq.symm ‹_›
  · rintro rfl; cases x <;> rfl

/-! ### The bytes of a payload at a place (R197) -/

/-- The n bytes of a payload from a place on. -/
def fieldAt (p : List Byte) (i : Nat) : Nat → List Byte
  | 0 => []
  | n + 1 => byteAt p i :: fieldAt p (i + 1) n

theorem fieldAt_cons (b : Byte) (p : List Byte) (n : Nat) : ∀ i, fieldAt (b :: p) (i + 1) n = fieldAt p i n := by
  induction n with
  | zero => exact fun i => rfl
  | succ n ih => exact fun i => by rw [fieldAt, ih]; rfl

/-- A payload is the field that spans it. -/
theorem fieldAt_length (p : List Byte) : fieldAt p 0 p.length = p := by
  induction p with
  | nil => rfl
  | cons b p ih => rw [List.length_cons, fieldAt, fieldAt_cons, ih]; rfl

/-! ### Numbers and the fields they stand in -/

theorem inRange_eq_some {lo hi x y : Nat} : inRange lo hi x = some y ↔ x = y ∧ lo ≤ y ∧ y ≤ hi := by
  unfold inRange
  split_ifs <;> grind

theorem num8_eq_iff {p : List Byte} {i x : Nat} : num8 p i = x ↔ x ≤ 255 ∧ byteOf x = byteAt p i := by
  have h0 := (byteAt p i).isLt
  simp only [num8, byteOf, ← BitVec.toNat_inj, BitVec.toNat_ofNat]
  omega

theorem finOf_eq_some {n : Nat} (hn : n ≤ 256) {b : Byte} {x : Fin n} : finOf n b = some x ↔ byteOf x.val = b := by
  have hb := b.isLt
  have hx := x.isLt
  simp only [finOf, byteOf, Option.dite_none_right_eq_some, Option.some.injEq, Fin.ext_iff, ← BitVec.toNat_inj,
    BitVec.toNat_ofNat]
  grind

theorem num16_eq_iff {p : List Byte} {i x : Nat} :
    num16 p i = x ↔ x ≤ 65535 ∧ littleEndian 2 x = fieldAt p i 2 := by
  have h0 := (byteAt p i).isLt
  have h1 := (byteAt p (i + 1)).isLt
  simp only [num16, num8, littleEndian, fieldAt, List.cons.injEq, and_true, ← BitVec.toNat_inj, BitVec.toNat_ofNat]
  omega

theorem num32_eq_iff {p : List Byte} {i x : Nat} :
    num32 p i = x ↔ x < 2 ^ 32 ∧ littleEndian 4 x = fieldAt p i 4 := by
  have h0 := (byteAt p i).isLt
  have h1 := (byteAt p (i + 1)).isLt
  have h2 := (byteAt p (i + 2)).isLt
  have h3 := (byteAt p (i + 3)).isLt
  simp only [num32, num16, num8, littleEndian, fieldAt, List.cons.injEq, and_true, ← BitVec.toNat_inj, BitVec.toNat_ofNat,
    Nat.add_assoc, Nat.reduceAdd]
  omega

theorem ofNat_num16_eq_iff {p : List Byte} {i : Nat} {x : BitVec 16} :
    BitVec.ofNat 16 (num16 p i) = x ↔ littleEndian 2 x.toNat = fieldAt p i 2 := by
  have h0 := (byteAt p i).isLt
  have h1 := (byteAt p (i + 1)).isLt
  have hx := x.isLt
  have h : BitVec.ofNat 16 (num16 p i) = x ↔ num16 p i = x.toNat := by
    rw [← BitVec.toNat_inj, BitVec.toNat_ofNat]
    simp only [num16, num8]
    omega
  rw [h, num16_eq_iff, and_iff_right (by omega)]

/-! ### The objects (R202)

Each reader's fields are told one by one, and so are the bytes of the writer; the two conjunctions agree field by field. -/

theorem readMotion_eq_some {p : List Byte} {m : MotionConfig} :
    readMotion p 0 = some m ↔ m.InRange ∧ motionBytes m = fieldAt p 0 10 := by
  have hbytes : motionBytes m = fieldAt p 0 10 ↔ m.source.code = byteAt p 0 ∧ boolByte m.invert = byteAt p 1
      ∧ littleEndian 4 m.paceRate = fieldAt p 2 4 ∧ littleEndian 2 m.reverseLimit = fieldAt p 6 2
      ∧ littleEndian 2 m.standstill = fieldAt p 8 2 := by
    simp [motionBytes, littleEndian, fieldAt, and_assoc]
  obtain ⟨source, invert, rate, limit, standstill⟩ := m
  rw [hbytes]
  simp only [readMotion, Option.bind_eq_bind, Option.pure_def, Option.bind_eq_some_iff, Option.some.injEq, MotionConfig.mk.injEq,
    sourceOf_eq_some, truthOf_eq_some, inRange_eq_some, num16_eq_iff, num32_eq_iff, existsAndEq]
  grind

theorem readLane_eq_some {p : List Byte} {l : LaneConfig} :
    readLane p 0 = some l ↔ l.InRange ∧ laneBytes l = fieldAt p 0 15 := by
  have hbytes : laneBytes l = fieldAt p 0 15 ↔ boolByte l.enabled = byteAt p 0 ∧ l.polarity.code = byteAt p 1
      ∧ l.mode.code = byteAt p 2 ∧ littleEndian 2 l.debounce = fieldAt p 3 2 ∧ littleEndian 2 l.holdoff = fieldAt p 5 2
      ∧ littleEndian 2 l.minLength = fieldAt p 7 2 ∧ littleEndian 4 l.maxLength = fieldAt p 9 4
      ∧ byteOf l.defaultClass.val = byteAt p 13 ∧ boolByte l.announce = byteAt p 14 := by
    simp [laneBytes, littleEndian, fieldAt, and_assoc]
  obtain ⟨enabled, polarity, mode, debounce, holdoff, minLength, maxLength, defaultClass, announce⟩ := l
  rw [hbytes]
  simp only [readLane, Option.bind_eq_bind, Option.pure_def, Option.bind_eq_some_iff, Option.some.injEq, LaneConfig.mk.injEq,
    truthOf_eq_some, polarityOf_eq_some, laneModeOf_eq_some, inRange_eq_some, num16_eq_iff, num32_eq_iff,
    finOf_eq_some (show 16 ≤ 256 by decide), existsAndEq]
  grind

theorem readStation_eq_some {p : List Byte} {x : StationConfig} :
    readStation p 0 = some x ↔ x.InRange ∧ stationBytes x = fieldAt p 0 19 := by
  have hbytes : stationBytes x = fieldAt p 0 19 ↔ x.kind.code = byteAt p 0 ∧ byteOf x.lane.val = byteAt p 1
      ∧ byteOf x.output.val = byteAt p 2 ∧ littleEndian 4 x.offset = fieldAt p 3 4 ∧ littleEndian 2 x.fireDelay = fieldAt p 7 2
      ∧ littleEndian 2 x.lead = fieldAt p 9 2 ∧ x.durationMode.code = byteAt p 11 ∧ littleEndian 2 x.duration = fieldAt p 12 2
      ∧ littleEndian 2 x.actionSet.toNat = fieldAt p 14 2 ∧ byteOf x.patternLength = byteAt p 16
      ∧ littleEndian 2 x.patternMask.toNat = fieldAt p 17 2 := by
    simp [stationBytes, littleEndian, fieldAt, and_assoc]
  obtain ⟨kind, lane, output, offset, fireDelay, lead, durationMode, duration, actionSet, patternLength, patternMask⟩ := x
  rw [hbytes]
  simp only [readStation, Option.bind_eq_bind, Option.pure_def, Option.bind_eq_some_iff, Option.some.injEq, StationConfig.mk.injEq,
    stationKindOf_eq_some, durationModeOf_eq_some, inRange_eq_some, num8_eq_iff, num16_eq_iff, num32_eq_iff,
    ofNat_num16_eq_iff, finOf_eq_some (show 4 ≤ 256 by decide), finOf_eq_some (show 8 ≤ 256 by decide), existsAndEq]
  grind

theorem readOutput_eq_some {p : List Byte} {o : OutputConfig} :
    readOutput p 0 = some o ↔ o.InRange ∧ outputBytes o = fieldAt p 0 7 := by
  have hbytes : outputBytes o = fieldAt p 0 7 ↔ boolByte o.enabled = byteAt p 0 ∧ o.polarity.code = byteAt p 1
      ∧ o.overlap.code = byteAt p 2 ∧ littleEndian 2 o.recovery = fieldAt p 3 2 ∧ littleEndian 2 o.maxOn = fieldAt p 5 2 := by
    simp [outputBytes, littleEndian, fieldAt, and_assoc]
  obtain ⟨enabled, polarity, overlap, recovery, maxOn⟩ := o
  rw [hbytes]
  simp only [readOutput, Option.bind_eq_bind, Option.pure_def, Option.bind_eq_some_iff, Option.some.injEq, OutputConfig.mk.injEq,
    truthOf_eq_some, polarityOf_eq_some, overlapOf_eq_some, num16_eq_iff, existsAndEq]
  grind

/-- Settles O22: an object is read exactly where its bytes are the field that it is read from, and a payload of its length is that
field. -/
theorem objectBytesSpellTheObjects : Obligations.ObjectBytesSpellTheObjects := by
  refine ⟨fun p m hp => ?_, fun p l hp => ?_, fun p x hp => ?_, fun p o hp => ?_⟩
  · rw [readMotion_eq_some, ← hp, fieldAt_length]
  · rw [readLane_eq_some, ← hp, fieldAt_length]
  · rw [readStation_eq_some, ← hp, fieldAt_length]
  · rw [readOutput_eq_some, ← hp, fieldAt_length]

end Sys2Proof.Machine

end

/-! ## Proofs: O24, APPLY's validation (R56, R101, R116, R145, R146)

The places at which a violation can be found are listed in the order of the search; what is found at them ascends in rank, so that the
head of the list is the violation that the rules call the first. -/

section

namespace Sys2Proof.Machine

open Sys2Proof

/-! ### The violations in the order of the search (R145) -/

/-- The live check of every object, in object order. -/
def liveViolations (c a : Configuration) : List (Option Violation) :=
  [violationIf (c.motion != a.motion) ⟨.notLive, .motion, 0⟩]
    ++ allLanes.map (fun n => violationIf ((c.lanes.get n).withLiveOf (a.lanes.get n) != a.lanes.get n) ⟨.notLive, .lane, n.val⟩)
    ++ allEight.map (fun n =>
        violationIf ((c.stations.get n).withLiveOf (a.stations.get n) != a.stations.get n) ⟨.notLive, .station, n.val⟩)
    ++ allEight.map (fun n =>
        violationIf ((c.outputs.get n).withLiveOf (a.outputs.get n) != a.outputs.get n) ⟨.notLive, .output, n.val⟩)

/-- The conditions of every object, in object order. -/
def conditionViolations (c : Configuration) (outs : Oct Output) : List (Option Violation) :=
  [violationIf (c.motion.source == .pace && c.motion.paceRate == 0) ⟨.paceRange, .motion, 0⟩]
    ++ allLanes.flatMap (laneViolations c) ++ allEight.flatMap (stationViolations c outs)

/-- Every place at which APPLY's validation can find a violation, in the order of the search. -/
def State.checks (s : State) : List (Option Violation) :=
  (if s.lcu.line = .setup then [] else liveViolations s.lcu.staged s.lcu.active)
    ++ conditionViolations s.lcu.staged s.out

theorem applyCheck_eq (s : State) : applyCheck s = s.checks.findSome? id := by
  unfold applyCheck State.checks
  rw [List.findSome?_append]
  split <;> rfl

/-- The violations of the staged copy, in the order of the search. -/
def State.violations (s : State) : List Violation := s.checks.filterMap id

theorem applyCheck_eq_head? (s : State) : applyCheck s = s.violations.head? := by
  rw [applyCheck_eq, State.violations, List.head?_filterMap]

theorem violationIf_eq_some {b : Bool} {v w : Violation} : violationIf b v = some w ↔ b = true ∧ v = w := by
  cases b <;> simp [violationIf]

/-! ### They are found by rank -/

/-- Whatever is found at the first place ranks before whatever is found at the second. -/
def RanksBefore (x y : Option Violation) : Prop := ∀ v ∈ x, ∀ w ∈ y, v.rank < w.rank

theorem ranksBefore_violationIf {a b : Bool} {v w : Violation} (h : v.rank < w.rank) :
    RanksBefore (violationIf a v) (violationIf b w) := by
  intro x hx y hy
  rw [← (violationIf_eq_some.mp hx).2, ← (violationIf_eq_some.mp hy).2]
  exact h

theorem rank_liveViolations {c a : Configuration} {v : Violation} (h : some v ∈ liveViolations c a) : v.rank < 1000 := by
  simp only [liveViolations, List.mem_append, List.mem_singleton, List.mem_map, Eq.comm (a := some v), violationIf_eq_some] at h
  obtain ((⟨-, rfl⟩ | ⟨n, -, -, rfl⟩) | ⟨n, -, -, rfl⟩) | ⟨n, -, -, rfl⟩ := h <;>
    simp only [Violation.rank, Violation.objectPlace, ViolationCode.place, if_true] <;> omega

theorem rank_laneViolations {c : Configuration} {n : LaneId} {v : Violation} (h : some v ∈ laneViolations c n) :
    1010 + 10 * n.val < v.rank ∧ v.rank < 1020 + 10 * n.val := by
  simp only [laneViolations, List.mem_cons, List.not_mem_nil, or_false, Eq.comm (a := some v), violationIf_eq_some] at h
  obtain ⟨-, rfl⟩ | ⟨-, rfl⟩ := h <;>
    simp only [Violation.rank, Violation.objectPlace, ViolationCode.place, reduceCtorEq, if_false] <;> omega

theorem rank_stationViolations {c : Configuration} {outs : Oct Output} {n : StationId} {v : Violation}
    (h : some v ∈ stationViolations c outs n) : 1050 + 10 * n.val < v.rank ∧ v.rank < 1060 + 10 * n.val := by
  unfold stationViolations at h
  dsimp only at h
  split at h
  · simp at h
  · simp only [List.mem_cons, List.not_mem_nil, or_false, Eq.comm (a := some v), violationIf_eq_some] at h
    obtain ⟨-, rfl⟩ | ⟨-, rfl⟩ | ⟨-, rfl⟩ | ⟨-, rfl⟩ | ⟨-, rfl⟩ := h <;>
      simp only [Violation.rank, Violation.objectPlace, ViolationCode.place, reduceCtorEq, if_false] <;> omega

theorem allLanes_ascending : allLanes.Pairwise (· < ·) := by decide

theorem allEight_ascending : allEight.Pairwise (· < ·) := by decide

theorem pairwise_laneViolations (c : Configuration) (n : LaneId) : (laneViolations c n).Pairwise RanksBefore := by
  simp only [laneViolations, List.pairwise_cons, List.mem_cons, List.not_mem_nil, or_false, forall_eq, false_imp_iff, implies_true,
    List.Pairwise.nil, and_true]
  exact ranksBefore_violationIf (by simp [Violation.rank, Violation.objectPlace, ViolationCode.place])

theorem pairwise_stationViolations (c : Configuration) (outs : Oct Output) (n : StationId) :
    (stationViolations c outs n).Pairwise RanksBefore := by
  unfold stationViolations
  dsimp only
  split
  · exact .nil
  · simp only [List.pairwise_cons, List.mem_cons, List.not_mem_nil, or_false, forall_eq_or_imp, forall_eq, false_imp_iff,
      implies_true, List.Pairwise.nil, and_true]
    and_intros <;>
      exact ranksBefore_violationIf (by simp [Violation.rank, Violation.objectPlace, ViolationCode.place])

/-- The objects stand in object order, each in ascending index (R142). -/
theorem pairwise_liveViolations (c a : Configuration) : (liveViolations c a).Pairwise RanksBefore := by
  have hobjects {k : Nat} (l : List (Fin k)) (hl : l.Pairwise (· < ·)) (kind : ObjectKind) (b : Fin k → Bool)
      (hk : kind = .lane ∨ kind = .station ∨ kind = .output) :
      (l.map fun n => violationIf (b n) ⟨.notLive, kind, n.val⟩).Pairwise RanksBefore := by
    refine List.pairwise_map.mpr (hl.imp fun {m n} hmn => ranksBefore_violationIf ?_)
    obtain rfl | rfl | rfl := hk <;> simp [Violation.rank, Violation.objectPlace, ViolationCode.place, hmn]
  unfold liveViolations
  simp only [List.pairwise_append, List.pairwise_singleton, true_and, List.mem_append, List.mem_singleton, List.mem_map]
  refine ⟨⟨⟨hobjects _ allLanes_ascending .lane _ (by simp), ?_⟩, hobjects _ allEight_ascending .station _ (by simp), ?_⟩,
    hobjects _ allEight_ascending .output _ (by simp), ?_⟩
  · rintro _ rfl _ ⟨n, -, rfl⟩
    exact ranksBefore_violationIf (by simp [Violation.rank, Violation.objectPlace, ViolationCode.place])
  · rintro _ (rfl | ⟨m, -, rfl⟩) _ ⟨n, -, rfl⟩ <;>
      exact ranksBefore_violationIf (by simp only [Violation.rank, Violation.objectPlace, ViolationCode.place, if_true]; omega)
  · rintro _ ((rfl | ⟨m, -, rfl⟩) | ⟨m, -, rfl⟩) _ ⟨n, -, rfl⟩ <;>
      exact ranksBefore_violationIf (by simp only [Violation.rank, Violation.objectPlace, ViolationCode.place, if_true]; omega)

/-- The objects stand in object order, and the conditions of an object in theirs (R56, R116, R145). -/
theorem pairwise_conditionViolations (c : Configuration) (outs : Oct Output) :
    (conditionViolations c outs).Pairwise RanksBefore := by
  have hmotion {v w : Violation} {b : Bool} (hv : v ∈ violationIf b ⟨.paceRange, .motion, 0⟩) (hw : 1001 < w.rank) :
      v.rank < w.rank := by
    rw [← (violationIf_eq_some.mp hv).2]
    exact hw
  unfold conditionViolations
  refine List.pairwise_append.mpr ⟨List.pairwise_append.mpr ⟨List.pairwise_singleton .., ?_, ?_⟩, ?_, ?_⟩
  · refine List.pairwise_flatMap.mpr ⟨fun n _ => pairwise_laneViolations c n, allLanes_ascending.imp fun {m n} hmn => ?_⟩
    rintro _ hx _ hy v rfl w rfl
    have hv := rank_laneViolations hx
    have hw := rank_laneViolations hy
    have hplace : m.val < n.val := hmn
    omega
  · rintro _ hx _ hy v hv w rfl
    obtain ⟨n, -, hn⟩ := List.mem_flatMap.mp hy
    have hw := rank_laneViolations hn
    rw [List.mem_singleton.mp hx] at hv
    exact hmotion hv (by omega)
  · refine List.pairwise_flatMap.mpr
      ⟨fun n _ => pairwise_stationViolations c outs n, allEight_ascending.imp fun {m n} hmn => ?_⟩
    rintro _ hx _ hy v rfl w rfl
    have hv := rank_stationViolations hx
    have hw := rank_stationViolations hy
    omega
  · rintro _ hx _ hy v hv w rfl
    obtain ⟨n, -, hn⟩ := List.mem_flatMap.mp hy
    have hw := rank_stationViolations hn
    obtain hx | hx := List.mem_append.mp hx
    · rw [List.mem_singleton.mp hx] at hv
      exact hmotion hv (by omega)
    · obtain ⟨m, -, hm⟩ := List.mem_flatMap.mp hx
      rw [Option.mem_def.mp hv] at hm
      have hv' := rank_laneViolations hm
      omega

theorem le_rank_conditionViolations {c : Configuration} {outs : Oct Output} {v : Violation}
    (h : some v ∈ conditionViolations c outs) : 1000 ≤ v.rank := by
  simp only [conditionViolations, List.mem_append, List.mem_singleton, List.mem_flatMap] at h
  obtain (h | ⟨n, -, h⟩) | ⟨n, -, h⟩ := h
  · rw [← (violationIf_eq_some.mp h.symm).2]
    decide
  · have := rank_laneViolations h
    omega
  · have := rank_stationViolations h
    omega

theorem pairwise_violations (s : State) : s.violations.Pairwise fun v w => v.rank < w.rank := by
  have hchecks : s.checks.Pairwise RanksBefore := by
    unfold State.checks
    refine List.pairwise_append.mpr ⟨?_, pairwise_conditionViolations .., ?_⟩
    · split
      · exact .nil
      · exact pairwise_liveViolations ..
    · rintro _ hx _ hy v rfl w rfl
      have hw := le_rank_conditionViolations hy
      split at hx
      · simp at hx
      · exact (rank_liveViolations hx).trans_le hw
  exact hchecks.filterMap id fun x y hxy v hv w hw => hxy v hv w hw

/-! ### They are those that the rules name -/

theorem mem_violations_iff {s : State} {v : Violation} :
    v ∈ s.violations ↔ (s.lcu.line ≠ .setup ∧ some v ∈ liveViolations s.lcu.staged s.lcu.active)
      ∨ some v ∈ conditionViolations s.lcu.staged s.out := by
  have h : v ∈ s.violations ↔ some v ∈ s.checks := by simp [State.violations]
  rw [h, State.checks, List.mem_append]
  split <;> simp_all

theorem mem_liveViolations {s : State} (hs : s.lcu.line ≠ .setup) {v : Violation} :
    some v ∈ liveViolations s.lcu.staged s.lcu.active ↔ Violates s v ∧ v.code = .notLive := by
  simp only [liveViolations, List.mem_append, List.mem_singleton, List.mem_map, Eq.comm (a := some v), violationIf_eq_some,
    bne_iff_ne]
  constructor
  · rintro (((⟨h, rfl⟩ | ⟨n, -, h, rfl⟩) | ⟨n, -, h, rfl⟩) | ⟨n, -, h, rfl⟩)
    · exact ⟨.motionNotLive hs h, rfl⟩
    · refine ⟨.laneNotLive n hs fun h' => h ?_, rfl⟩
      rw [h']
      rfl
    · refine ⟨.stationNotLive n hs fun h' => h ?_, rfl⟩
      rw [h']
      rfl
    · refine ⟨.outputNotLive n hs fun h' => h ?_, rfl⟩
      rw [h']
      rfl
  · rintro ⟨h, hcode⟩
    cases h with
    | motionNotLive _ h => exact .inl (.inl (.inl ⟨h, rfl⟩))
    | laneNotLive n _ h =>
      refine .inl (.inl (.inr ⟨n, mem_allLanes n, fun h' => h ?_, rfl⟩))
      rw [← h']
      rfl
    | stationNotLive n _ h =>
      refine .inl (.inr ⟨n, mem_allEight n, fun h' => h ?_, rfl⟩)
      rw [← h']
      rfl
    | outputNotLive n _ h =>
      refine .inr ⟨n, mem_allEight n, fun h' => h ?_, rfl⟩
      rw [← h']
      rfl
    | _ => cases hcode

theorem patternEmpty_iff {x : StationConfig} :
    x.patternEmpty = true ↔ ∀ k, k < x.patternLength → x.patternMask.getLsbD k = false := by
  simp [StationConfig.patternEmpty]

theorem violates_of_laneViolations {s : State} {n : LaneId} {v : Violation}
    (h : some v ∈ laneViolations s.lcu.staged n) : Violates s v := by
  simp only [laneViolations, List.mem_cons, List.not_mem_nil, or_false, Eq.comm (a := some v), violationIf_eq_some,
    Bool.and_eq_true, beq_iff_eq, bne_iff_ne, decide_eq_true_eq] at h
  obtain ⟨⟨hm, hl⟩, rfl⟩ | ⟨⟨hx, hl⟩, rfl⟩ := h
  · exact .minInLeading n hm hl
  · exact .lengthLimits n hx hl

theorem violates_of_stationViolations {s : State} {n : StationId} {v : Violation}
    (h : some v ∈ stationViolations s.lcu.staged s.out n) : Violates s v := by
  unfold stationViolations at h
  dsimp only at h
  split at h
  · simp at h
  next hk =>
    simp only [List.mem_cons, List.not_mem_nil, or_false, Eq.comm (a := some v), violationIf_eq_some, Bool.and_eq_true,
      beq_iff_eq, bne_iff_ne, decide_eq_true_eq, Bool.not_eq_true', List.any_eq_true, patternEmpty_iff] at h
    obtain ⟨hd, rfl⟩ | ⟨hl, rfl⟩ | ⟨⟨hc, hp⟩, rfl⟩ | ⟨⟨m, -, ⟨hm, hkind⟩, ho⟩, rfl⟩ | ⟨hf, rfl⟩ := h
    · exact .laneDisabled n hk hd
    · exact .leadRange n hk hl
    · exact .patternEmpty n hc hp
    · exact .outputMixed n m hk hm hkind ho
    · exact .outputForced n hk hf

/-- A violation that is not of the live check is found at its condition. -/
theorem mem_conditionViolations_of_violates {s : State} {v : Violation} (h : Violates s v) (hcode : v.code ≠ .notLive) :
    some v ∈ conditionViolations s.lcu.staged s.out := by
  have hlane {n : LaneId} (h : some v ∈ laneViolations s.lcu.staged n) : some v ∈ conditionViolations s.lcu.staged s.out :=
    List.mem_append_left _ (List.mem_append_right _ (List.mem_flatMap.mpr ⟨n, mem_allLanes n, h⟩))
  have hstation {n : StationId} (h : some v ∈ stationViolations s.lcu.staged s.out n) :
      some v ∈ conditionViolations s.lcu.staged s.out :=
    List.mem_append_right _ (List.mem_flatMap.mpr ⟨n, mem_allEight n, h⟩)
  cases h with
  | paceRange h hr => simp [conditionViolations, violationIf, h, hr]
  | minInLeading n h hm => exact hlane (n := n) (by simp [laneViolations, violationIf, h, hm])
  | lengthLimits n h hm => exact hlane (n := n) (by simp [laneViolations, violationIf, h, hm])
  | laneDisabled n h hd => exact hstation (n := n) (by simp [stationViolations, violationIf, h, hd])
  | leadRange n h hl => exact hstation (n := n) (by simp [stationViolations, violationIf, h, hl])
  | patternEmpty n h hp => exact hstation (n := n) (by simp [stationViolations, violationIf, h, patternEmpty_iff.mpr hp])
  | outputMixed n m h hm hk ho =>
    have hany : (allEight.any fun m => (s.lcu.staged.stations.get m).kind != .off
        && (s.lcu.staged.stations.get m).kind != (s.lcu.staged.stations.get n).kind
        && (s.lcu.staged.stations.get m).output == (s.lcu.staged.stations.get n).output) = true :=
      List.any_eq_true.mpr ⟨m, mem_allEight m, by simp [hm, hk, ho]⟩
    exact hstation (n := n) (by simp [stationViolations, violationIf, h, hany])
  | outputForced n h hf => exact hstation (n := n) (by simp [stationViolations, violationIf, h, hf])
  | _ => exact absurd rfl hcode

theorem mem_violations {s : State} {v : Violation} : v ∈ s.violations ↔ Violates s v := by
  rw [mem_violations_iff]
  constructor
  · rintro (⟨hs, h⟩ | h)
    · exact ((mem_liveViolations hs).mp h).1
    · simp only [conditionViolations, List.mem_append, List.mem_singleton, List.mem_flatMap] at h
      obtain (h | ⟨n, -, h⟩) | ⟨n, -, h⟩ := h
      · obtain ⟨hpace, rfl⟩ := violationIf_eq_some.mp h.symm
        simp only [Bool.and_eq_true, beq_iff_eq] at hpace
        exact .paceRange hpace.1 hpace.2
      · exact violates_of_laneViolations h
      · exact violates_of_stationViolations h
  · intro h
    by_cases hcode : v.code = .notLive
    · have hs : s.lcu.line ≠ .setup := by
        cases h with
        | motionNotLive hs | laneNotLive _ hs | stationNotLive _ hs | outputNotLive _ hs => exact hs
        | _ => cases hcode
      exact .inl ⟨hs, (mem_liveViolations hs).mpr ⟨h, hcode⟩⟩
    · exact .inr (mem_conditionViolations_of_violates h hcode)

/-! ### The verdict on the staged copy -/

/-- In a list of ascending rank the head is what ranks before all else in it. -/
theorem head?_eq_some_iff_of_ascending {l : List Violation} (hl : l.Pairwise fun v w => v.rank < w.rank) {v : Violation} :
    l.head? = some v ↔ v ∈ l ∧ ∀ w ∈ l, w ≠ v → v.rank < w.rank := by
  cases l with
  | nil => simp
  | cons a l =>
    rw [List.pairwise_cons] at hl
    rw [List.head?_cons, Option.some.injEq]
    constructor
    · rintro rfl
      exact ⟨List.mem_cons_self, fun w hw hne => hl.1 w ((List.mem_cons.mp hw).resolve_left hne)⟩
    · rintro ⟨hv, hfirst⟩
      by_contra hne
      have hlater := hl.1 v ((List.mem_cons.mp hv).resolve_left (Ne.symm hne))
      have hbefore := hfirst a List.mem_cons_self hne
      omega

theorem applyCheck_eq_some {s : State} {v : Violation} :
    applyCheck s = some v ↔ Violates s v ∧ ∀ w, Violates s w → w ≠ v → v.rank < w.rank := by
  simp only [applyCheck_eq_head?, head?_eq_some_iff_of_ascending (pairwise_violations s), mem_violations]

theorem applyCheck_eq_none {s : State} : applyCheck s = none ↔ ∀ v, ¬ Violates s v := by
  simp only [applyCheck_eq_head?, List.head?_eq_none_iff, List.eq_nil_iff_forall_not_mem, mem_violations]

theorem exec_apply_invalid {s : State} {q : Byte} {v : Violation} (h : Takes s 0x1F q []) (hv : applyCheck s = some v) :
    exec (.apply q []) s =
      .next { s with lnk := s.lnk.afterTaken 0x1F q [] ⟨.invalidConfig, validationBytes (some v), .none⟩ } := by
  have hcheck : applyCheck (s.taking q) = some v := hv
  have hcommand : instantCommand .apply [] (s.taking q)
      = some (s.taking q, answer .invalidConfig (validationBytes (some v))) := by
    simp only [instantCommand, commandApply, hcheck]
  rw [exec_frame rfl, receiveFrame_inspect h (by decide) (by decide) (by decide) hcommand]
  rfl

/-- Settles O24: the violations stand in a list of ascending rank, of which the check answers the head, and its members are the
violations that the rules name. -/
theorem applyJudgesTheStagedCopy : Obligations.ApplyJudgesTheStagedCopy := by
  refine ⟨fun s => ?_, fun s v => applyCheck_eq_some, fun s q v => exec_apply_invalid⟩
  rw [applyCheck_eq_none]
  constructor
  · intro hnone
    refine ⟨fun hs => ⟨?_, fun n => ?_, fun n => ?_, fun n => ?_⟩, fun ⟨hp, hr⟩ => hnone _ (.paceRange hp hr),
      fun n => ⟨fun hm => ?_, fun hx => ?_⟩, fun n hk => ⟨?_, ?_, fun hc => ?_, fun m hm ho => ?_, ?_⟩⟩ <;>
      by_contra hbad
    · exact hnone _ (.motionNotLive hs hbad)
    · exact hnone _ (.laneNotLive n hs hbad)
    · exact hnone _ (.stationNotLive n hs hbad)
    · exact hnone _ (.outputNotLive n hs hbad)
    · exact hnone _ (.minInLeading n hm hbad)
    · exact hnone _ (.lengthLimits n hx (Nat.not_le.mp hbad))
    · exact hnone _ (.laneDisabled n hk (Bool.not_eq_true _ ▸ hbad))
    · exact hnone _ (.leadRange n hk (Nat.not_le.mp hbad))
    · push Not at hbad
      exact hnone _ (.patternEmpty n hc fun k hk => by simpa using hbad k hk)
    · exact hnone _ (.outputMixed n m hk hm hbad ho)
    · exact hnone _ (.outputForced n hk hbad)
  · rintro ⟨hlive, hpace, hlanes, hstations⟩ v hv
    cases hv with
    | motionNotLive hs hd =>
      obtain ⟨hmotion, -⟩ := hlive hs
      exact hd hmotion
    | laneNotLive n hs hd =>
      obtain ⟨-, hlane, -⟩ := hlive hs
      exact hd (hlane n)
    | stationNotLive n hs hd =>
      obtain ⟨-, -, hstation, -⟩ := hlive hs
      exact hd (hstation n)
    | outputNotLive n hs hd =>
      obtain ⟨-, -, -, houtput⟩ := hlive hs
      exact hd (houtput n)
    | paceRange hp hr => exact hpace ⟨hp, hr⟩
    | minInLeading n h hm => exact hm ((hlanes n).1 h)
    | lengthLimits n h hm => exact absurd ((hlanes n).2 h) (Nat.not_le.mpr hm)
    | laneDisabled n h hd =>
      obtain ⟨henabled, -⟩ := hstations n h
      simp [hd] at henabled
    | leadRange n h hl =>
      obtain ⟨-, hlead, -⟩ := hstations n h
      omega
    | patternEmpty n h hp =>
      obtain ⟨-, -, hpattern, -⟩ := hstations n (by simp [h])
      obtain ⟨k, hk, hbit⟩ := hpattern h
      simp [hp k hk] at hbit
    | outputMixed n m h hm hk ho =>
      obtain ⟨-, -, -, hkinds, -⟩ := hstations n h
      exact hk (hkinds m hm ho)
    | outputForced n h hf =>
      obtain ⟨-, -, -, -, hout⟩ := hstations n h
      exact hout hf

end Sys2Proof.Machine

end

/-! ## Proofs: O25, a successful APPLY (R147)

MOT, DET, OUT and TRK act one after another. DET and OUT act lane by lane and output by output, each step on its own place; the end
notices that OUT sends on the way reach TRK and RPT alone, so these two are followed by themselves. -/

section

namespace Sys2Proof.Machine

open Sys2Proof

/-! ### Folds in which each step changes one place -/

/-- In the states of `P` each step changes the place that it is named by, in a way that depends on what stands there, and no other
place. -/
structure ActsByPlace {ι β : Type} [DecidableEq ι] (P : State → Prop) (get : State → ι → β) (f : State → ι → State)
    (g : ι → β → β) : Prop where
  keeps : ∀ s n, P s → P (f s n)
  get_step : ∀ s n, P s → ∀ m, get (f s n) m = if m = n then g n (get s n) else get s m

section

variable {ι β γ : Type} [DecidableEq ι] {P : State → Prop} {get : State → ι → β} {f : State → ι → State} {g : ι → β → β}

theorem ActsByPlace.foldl_get (h : ActsByPlace P get f g) : ∀ (l : List ι), l.Nodup → ∀ s, P s → ∀ m,
    get (l.foldl f s) m = if m ∈ l then g m (get s m) else get s m := by
  intro l
  induction l with
  | nil => exact fun _ s _ m => by simp
  | cons n l ih =>
    intro hl s hs m
    obtain ⟨hn, hl⟩ := List.nodup_cons.mp hl
    rw [List.foldl_cons, ih hl _ (h.keeps s n hs), h.get_step s n hs]
    by_cases hm : m = n
    · subst hm
      simp [hn]
    · simp [hm]

/-- What such steps do beyond their places is told from what stood at the places at first. -/
theorem ActsByPlace.foldl_rel (h : ActsByPlace P get f g) {R : State → γ → Prop} {k : ι → β → γ → γ}
    (hR : ∀ s n c, P s → R s c → R (f s n) (k n (get s n) c)) :
    ∀ (l : List ι), l.Nodup → ∀ s c, P s → R s c → R (l.foldl f s) (l.foldl (fun c n => k n (get s n) c) c) := by
  intro l
  induction l with
  | nil => exact fun _ s c _ hc => hc
  | cons n l ih =>
    intro hl s c hs hc
    obtain ⟨hn, hl⟩ := List.nodup_cons.mp hl
    have hsame : l.foldl (fun c m => k m (get s m) c) (k n (get s n) c)
        = l.foldl (fun c m => k m (get (f s n) m) c) (k n (get s n) c) := by
      refine List.foldl_ext _ _ _ fun c m hm => ?_
      rw [h.get_step s n hs, if_neg (ne_of_mem_of_not_mem hm hn)]
    rw [List.foldl_cons, List.foldl_cons, hsame]
    exact ih hl _ _ (h.keeps s n hs) (hR s n c hs hc)

end

/-! ### End notices at TRK and RPT -/

/-- TRK, the line state, RPT and the track position are those of another state. -/
structure SameTracking (s t : State) : Prop where
  trk : t.trk = s.trk
  line : t.lcu.line = s.lcu.line
  rpt : t.rpt = s.rpt
  position : t.mot.position = s.mot.position

section

variable {s t : State} (h : SameTracking s t)

include h

theorem SameTracking.mapEntry (tag : Tag) (st : StationId) (f : Entry → Entry) :
    SameTracking (mapEntry tag st f s) (mapEntry tag st f t) :=
  ⟨by simp [h.trk], h.line, h.rpt, h.position⟩

theorem SameTracking.setOutcome (tag : Tag) (st : StationId) (o : StationOutcome) :
    SameTracking (setOutcome tag st o s) (setOutcome tag st o t) :=
  ⟨by simp [h.trk], h.line, h.rpt, h.position⟩

theorem SameTracking.removeItem (i : Item) (d : Disposition) : SameTracking (removeItem i d s) (removeItem i d t) := by
  rw [removeItem_eq, removeItem_eq]
  constructor <;> simp [h.trk, h.line, h.rpt, h.position]

theorem SameTracking.item? (tag : Tag) : t.item? tag = s.item? tag := by
  rw [State.item?, State.item?, h.trk]

theorem SameTracking.retireIfDone (tag : Tag) : SameTracking (retireIfDone tag s) (retireIfDone tag t) := by
  unfold Machine.retireIfDone
  rw [h.item?]
  split
  · exact h
  · split
    · exact h.removeItem _ _
    · exact h

theorem SameTracking.endNoticeFor (b : Bool) (p : Tag × StationId) : SameTracking (endNoticeFor b s p) (endNoticeFor b t p) := by
  have hout : t.outcome? p.1 p.2 = s.outcome? p.1 p.2 := by rw [State.outcome?, State.outcome?, h.item?]
  unfold Machine.endNoticeFor
  rw [hout]
  split
  · exact ((h.mapEntry _ _ _).setOutcome _ _ _).retireIfDone _
  · exact h

end

theorem SameTracking.endNotice (ps : List (Tag × StationId)) (b : Bool) : ∀ {s t : State}, SameTracking s t →
    SameTracking (endNotice ps b s) (endNotice ps b t) := by
  induction ps with
  | nil => exact fun h => h
  | cons p ps ih => exact fun h => ih (h.endNoticeFor b p)

/-! ### MOT (R101) -/

/-- The decoder's reference after an APPLY (R101). -/
def State.referenceAfter (old : MotionConfig) (s : State) : Bool × Bool :=
  if old.source ≠ .encoder ∧ s.lcu.active.motion.source = .encoder then (s.pins.encA, s.pins.encB) else s.mot.reference

/-- The accumulator, the microsecond up to which it is brought and the counts owed after an APPLY (R101, R104). -/
def State.paceAfter (old : MotionConfig) (s : State) : Nat × Nat × Nat :=
  let sum := s.mot.accumulator + (s.now - s.mot.paceTime) * old.paceRate
  if s.lcu.active.motion.source = .pace ∧ old.source ≠ .pace then (0, s.now, 0)
  else if s.lcu.active.motion.source = .pace ∧ old.paceRate ≠ s.lcu.active.motion.paceRate then
    (sum % 1000000, max s.now s.mot.paceTime, s.mot.owedCounts + sum / 1000000)
  else (s.mot.accumulator, s.mot.paceTime, s.mot.owedCounts)

/-- MOT after an APPLY (R67, R101, R147). -/
def State.motAfter (old : MotionConfig) (s : State) : Mot :=
  { s.mot with
    debt := min s.mot.debt (s.lcu.active.motion.reverseLimit + 1)
    reference := s.referenceAfter old
    accumulator := (s.paceAfter old).1
    paceTime := (s.paceAfter old).2.1
    owedCounts := (s.paceAfter old).2.2 }

theorem capDebt_eq (limit : Nat) (s : State) :
    (if limit < s.mot.debt then mapMot (fun m => { m with debt := limit }) s else s)
      = mapMot (fun m => { m with debt := min m.debt limit }) s := by
  split
  next h => simp only [mapMot, Nat.min_eq_right h.le]
  next h => simp only [mapMot, Nat.min_eq_left (Nat.not_lt.mp h)]

theorem applyMotion_eq (old : MotionConfig) (s : State) : applyMotion old s = { s with mot := s.motAfter old } := by
  unfold applyMotion
  dsimp only
  rw [capDebt_eq]
  unfold State.motAfter State.referenceAfter State.paceAfter
  by_cases hencoder : s.lcu.active.motion.source = .encoder
  · by_cases hold : old.source = .encoder <;> simp [hencoder, hold, mapMot]
  · by_cases hpace : s.lcu.active.motion.source = .pace
    · by_cases hold : old.source = .pace
      · by_cases hrate : old.paceRate = s.lcu.active.motion.paceRate <;>
          simp [hpace, hold, hrate, mapMot, paceCatchUp]
      · simp [hpace, hold, mapMot]
    · simp [hencoder, hpace, mapMot]

/-! ### DET (R128) -/

theorem reinitialises_eq (old new : LaneConfig) :
    reinitialises old new = decide (old.enabled ≠ new.enabled
      ∨ (new.enabled = true ∧ (old.polarity ≠ new.polarity ∨ old.mode ≠ new.mode))) := by
  rw [Bool.eq_iff_iff]
  simp [reinitialises]

/-- A lane after an APPLY that gives it a new object. -/
def Lane.afterApply (old new : LaneConfig) (level : Bool) (l : Lane) : Lane :=
  if old.enabled ≠ new.enabled ∨ (new.enabled = true ∧ (old.polarity ≠ new.polarity ∨ old.mode ≠ new.mode)) then
    { l with
      candidate := none
      leading := none
      state := if new.enabled = true ∧ isCovered new.polarity level = true then .suppressed else .idle }
  else l

/-- Whether an APPLY ends the JAM of a lane (R125, R128). -/
def Lane.unjams (old new : LaneConfig) (l : Lane) : Bool :=
  l.state == .blocked
    && decide (old.enabled ≠ new.enabled ∨ (new.enabled = true ∧ (old.polarity ≠ new.polarity ∨ old.mode ≠ new.mode)))

/-- DET's action at one lane. -/
def applyLane (old : Configuration) (s : State) (n : LaneId) : State :=
  if reinitialises (old.lanes.get n) (s.laneConfig n) then reinitLane n s else s

theorem applyLane_eq (old : Configuration) (s : State) (n : LaneId) :
    applyLane old s n =
      (mapLane n (Lane.afterApply (old.lanes.get n) (s.lcu.active.lanes.get n) (s.pins.det.get n)) s).withDue
        ((s.det.get n).unjams (old.lanes.get n) (s.lcu.active.lanes.get n)) := by
  unfold applyLane Lane.afterApply Lane.unjams State.laneConfig
  rw [reinitialises_eq]
  by_cases h : (old.lanes.get n).enabled ≠ (s.lcu.active.lanes.get n).enabled
      ∨ ((s.lcu.active.lanes.get n).enabled = true ∧ ((old.lanes.get n).polarity ≠ (s.lcu.active.lanes.get n).polarity
        ∨ (old.lanes.get n).mode ≠ (s.lcu.active.lanes.get n).mode))
  · simp only [h, decide_true, if_true, Bool.and_true, reinitLane, passStatus_if, State.laneConfig, Bool.and_eq_true]
  · simp only [h, decide_false, if_false, Bool.and_false, withDue_false, Bool.false_eq_true]
    simp [mapLane]

/-- DET acts on each lane by the active copy and the pins, which stay. -/
theorem applyLane_acts (old c : Configuration) (pins : Pins) :
    ActsByPlace (fun u => u.lcu.active = c ∧ u.pins = pins) (fun u => u.det.get) (applyLane old)
      (fun n => Lane.afterApply (old.lanes.get n) (c.lanes.get n) (pins.det.get n)) where
  keeps u n hu := by rw [applyLane_eq]; exact hu
  get_step u n hu m := by
    obtain ⟨rfl, rfl⟩ := hu
    rw [applyLane_eq]
    exact Quad.get_set ..

theorem applyLanes_get (old : Configuration) (s : State) (n : LaneId) :
    (applyLanes old s).det.get n =
      (s.det.get n).afterApply (old.lanes.get n) (s.lcu.active.lanes.get n) (s.pins.det.get n) := by
  have h := (applyLane_acts old s.lcu.active s.pins).foldl_get allLanes (by decide) s ⟨rfl, rfl⟩ n
  rwa [if_pos (mem_allLanes n)] at h

theorem applyLanes_eq (old : Configuration) (s : State) :
    applyLanes old s = { s with
      det := (applyLanes old s).det
      rpt := { s.rpt with
        latchDue := s.rpt.latchDue
          || allLanes.any fun n => (s.det.get n).unjams (old.lanes.get n) (s.lcu.active.lanes.get n) } } := by
  have h := (applyLane_acts old s.lcu.active s.pins).foldl_rel
    (R := fun u due => u = { s with det := u.det, rpt := { s.rpt with latchDue := due } })
    (k := fun n l due => due || l.unjams (old.lanes.get n) (s.lcu.active.lanes.get n))
    (fun u n due hu hdue => by
      dsimp only at hdue ⊢
      rw [applyLane_eq, hu.1, hdue]
      rfl)
    allLanes (by decide) s s.rpt.latchDue ⟨rfl, rfl⟩ rfl
  refine h.trans ?_
  simp only [allLanes, List.foldl_cons, List.foldl_nil, List.any_cons, List.any_nil, Bool.or_false, Bool.or_assoc]
  rfl

/-! ### OUT (R75, R85, R90, R91) -/

/-- The pairs attached to an output's pulse, none without one. -/
def Output.attached (o : Output) : List (Tag × StationId) :=
  match o.pulse with
  | some p => p.attached
  | none => []

/-- An output after an APPLY that gives it a new object. -/
def Output.afterApply (old new : OutputConfig) (now : Nat) (o : Output) : Output :=
  if (old.enabled = true ∧ new.enabled = false) ∧ (o.state = .forced ∨ (o.state = .active ∧ o.pulse.isSome = true)) then
    { o.rested new now with truncated := o.truncated + (if o.state = .active then 1 else 0) }
  else { o with level := levelFor new.polarity o.state }

/-- Whether an APPLY cuts the output's pulse short (R90). -/
def Output.cutShort (old new : OutputConfig) (o : Output) : Bool := old.enabled && !new.enabled && o.state == .active

/-- The line re-driven by the new object. -/
def redrive (n : OutputId) (s : State) : State :=
  mapOutput n (fun o => { o with level := levelFor (s.lcu.active.outputs.get n).polarity o.state }) s

theorem redrive_get (n m : OutputId) (s : State) :
    (redrive n s).out.get m = if m = n then
      { s.out.get n with level := levelFor (s.lcu.active.outputs.get n).polarity (s.out.get n).state } else s.out.get m :=
  mapOutput_get ..

theorem redrive_keeps (n : OutputId) (s : State) : KeepsBeyondTracking s (redrive n s) := mapOutput_keeps ..

theorem applyOutput_eq (old : Configuration) (s : State) (n : OutputId) :
    applyOutput old s n =
      if (old.outputs.get n).enabled = true ∧ (s.lcu.active.outputs.get n).enabled = false then
        match (s.out.get n).state with
        | .active => endPulse n true (redrive n s)
        | .forced => restOutput n (redrive n s)
        | .idle | .recovery => redrive n s
      else redrive n s := by
  have hstate : ((redrive n s).out.get n).state = (s.out.get n).state := by rw [redrive_get, if_pos rfl]
  rw [← hstate]
  simp only [← Bool.not_eq_true', ← Bool.and_eq_true]
  rfl

/-- The rest of a re-driven output: its line is set anew. -/
theorem restOutput_redrive_get (n m : OutputId) (s : State) :
    (restOutput n (redrive n s)).out.get m =
      if m = n then (s.out.get n).rested (s.lcu.active.outputs.get n) s.now else s.out.get m := by
  have hself : (redrive n s).out.get n
      = { s.out.get n with level := levelFor (s.lcu.active.outputs.get n).polarity (s.out.get n).state } := by
    rw [redrive_get, if_pos rfl]
  rw [restOutput_eq, Oct.get_set, hself, redrive_get]
  split <;> rfl

theorem applyOutput_get (old : Configuration) (s : State) (n m : OutputId) :
    (applyOutput old s n).out.get m = if m = n then
      (s.out.get n).afterApply (old.outputs.get n) (s.lcu.active.outputs.get n) s.now else s.out.get m := by
  rw [applyOutput_eq]
  unfold Output.afterApply
  by_cases hoff : (old.outputs.get n).enabled = true ∧ (s.lcu.active.outputs.get n).enabled = false
  · rw [if_pos hoff]
    cases hstate : (s.out.get n).state with
    | idle | recovery => simp [redrive_get, hstate]
    | forced => simp [restOutput_redrive_get, hoff, Output.rested]
    | active =>
      by_cases hm : m = n <;> cases hp : (s.out.get n).pulse <;>
        simp [endPulse_get, redrive_get, restOutput_redrive_get, hoff, hstate, hp, hm]
  · rw [if_neg hoff, redrive_get]
    simp [hoff]

theorem applyOutput_keeps (old : Configuration) (s : State) (n : OutputId) :
    KeepsBeyondTracking s (applyOutput old s n) := by
  rw [applyOutput_eq]
  split
  · split
    · exact (redrive_keeps n s).trans (endPulse_keeps n true _)
    · exact (redrive_keeps n s).trans (restOutput_keeps n _)
    · exact redrive_keeps n s
    · exact redrive_keeps n s
  · exact redrive_keeps n s

theorem applyOutput_counts (old : Configuration) (s : State) (n : OutputId) : KeepsCounts s (applyOutput old s n) := by
  have hredrive : KeepsCounts s (redrive n s) := mapOutput_counts ..
  rw [applyOutput_eq]
  split
  · split
    · exact hredrive.trans (endPulse_counts n true _)
    · exact hredrive.trans (restOutput_counts n _)
    · exact hredrive
    · exact hredrive
  · exact hredrive

/-- At TRK and RPT the end of a pulse is its end notice. -/
theorem endPulse_sameTracking {s u : State} (h : SameTracking s u) (n : OutputId) (b : Bool) :
    SameTracking (endPulse n b s) (endNotice (s.out.get n).attached b u) := by
  unfold endPulse Output.attached
  cases (s.out.get n).pulse with
  | none => exact h
  | some p => cases b <;> exact SameTracking.endNotice _ _ ⟨h.trk, h.line, h.rpt, h.position⟩

theorem applyOutput_sameTracking {s u : State} (h : SameTracking s u) (old : Configuration) (n : OutputId) :
    SameTracking (applyOutput old s n)
      (if (s.out.get n).cutShort (old.outputs.get n) (s.lcu.active.outputs.get n)
        then endNotice (s.out.get n).attached true u else u) := by
  have hredrive : SameTracking (redrive n s) u := ⟨h.trk, h.line, h.rpt, h.position⟩
  have hattached : ((redrive n s).out.get n).attached = (s.out.get n).attached := by
    rw [redrive_get, if_pos rfl]
    rfl
  rw [applyOutput_eq]
  unfold Output.cutShort
  by_cases hoff : (old.outputs.get n).enabled = true ∧ (s.lcu.active.outputs.get n).enabled = false
  · rw [if_pos hoff, hoff.1, hoff.2]
    cases hstate : (s.out.get n).state with
    | active =>
      have hend := endPulse_sameTracking hredrive n true
      rwa [hattached] at hend
    | idle | recovery => exact hredrive
    | forced => exact ⟨h.trk, h.line, h.rpt, h.position⟩
  · rw [if_neg hoff, if_neg fun hcut => hoff (by simp_all)]
    exact hredrive

/-! ### All outputs, one after another -/

/-- OUT acts on each output by the active copy and the time base, which stay. -/
theorem applyOutput_acts (old c : Configuration) (now : Nat) :
    ActsByPlace (fun u => u.lcu.active = c ∧ u.now = now) (fun u => u.out.get) (applyOutput old)
      (fun n => Output.afterApply (old.outputs.get n) (c.outputs.get n) now) where
  keeps u n hu := ⟨(applyOutput_keeps old u n).active.trans hu.1, (applyOutput_keeps old u n).now.trans hu.2⟩
  get_step u n hu m := by
    obtain ⟨rfl, rfl⟩ := hu
    exact applyOutput_get old u n m

theorem foldl_applyOutput_get (old : Configuration) (s : State) (n : OutputId) :
    (allEight.foldl (applyOutput old) s).out.get n =
      (s.out.get n).afterApply (old.outputs.get n) (s.lcu.active.outputs.get n) s.now := by
  have h := (applyOutput_acts old s.lcu.active s.now).foldl_get allEight (by decide) s ⟨rfl, rfl⟩ n
  rwa [if_pos (mem_allEight n)] at h

/-- At TRK and RPT the outputs' part in an APPLY is the end notices of the pulses that it cuts short, in output order. -/
theorem foldl_applyOutput_sameTracking {s u : State} (h : SameTracking s u) (old : Configuration) :
    SameTracking (allEight.foldl (applyOutput old) s)
      ((allEight.filter fun n => (s.out.get n).cutShort (old.outputs.get n) (s.lcu.active.outputs.get n)).foldl
        (fun u n => endNotice (s.out.get n).attached true u) u) := by
  rw [List.foldl_filter]
  exact (applyOutput_acts old s.lcu.active s.now).foldl_rel (R := SameTracking)
    (k := fun n o u =>
      if o.cutShort (old.outputs.get n) (s.lcu.active.outputs.get n) then endNotice o.attached true u else u)
    (fun v n u hv hu => by
      have hstep := applyOutput_sameTracking hu old n
      rwa [hv.1] at hstep)
    allEight (by decide) s u ⟨rfl, rfl⟩ h

/-! ### The whole of a successful APPLY (R147) -/

/-- The part with the staged copy active, after MOT and DET have acted on it. -/
def State.motionAndLanesApplied (s : State) : State :=
  applyLanes s.lcu.active (applyMotion s.lcu.active.motion { s with lcu := { s.lcu with active := s.lcu.staged } })

/-- Whether an APPLY ends the JAM of any lane. -/
def State.applyUnjams (s : State) : Bool :=
  allLanes.any fun n => (s.det.get n).unjams (s.lcu.active.lanes.get n) (s.lcu.staged.lanes.get n)

theorem motionAndLanesApplied_eq (s : State) :
    s.motionAndLanesApplied = { s with
      lcu := { s.lcu with active := s.lcu.staged }
      mot := State.motAfter s.lcu.active.motion { s with lcu := { s.lcu with active := s.lcu.staged } }
      det := s.motionAndLanesApplied.det
      rpt := { s.rpt with latchDue := s.rpt.latchDue || s.applyUnjams } } := by
  unfold State.motionAndLanesApplied
  rw [applyLanes_eq, applyMotion_eq]
  rfl

theorem motionAndLanesApplied_get (s : State) (n : LaneId) :
    s.motionAndLanesApplied.det.get n =
      (s.det.get n).afterApply (s.lcu.active.lanes.get n) (s.lcu.staged.lanes.get n) (s.pins.det.get n) := by
  unfold State.motionAndLanesApplied
  rw [applyLanes_get, applyMotion_eq]

/-- The part after OUT has acted too. -/
def State.outputsApplied (s : State) : State := allEight.foldl (applyOutput s.lcu.active) s.motionAndLanesApplied

theorem outputsApplied_keeps (s : State) : KeepsBeyondTracking s.motionAndLanesApplied s.outputsApplied :=
  .foldl _ (applyOutput_keeps _) allEight _

theorem outputsApplied_counts (s : State) : KeepsCounts s s.outputsApplied := by
  have hfirst : KeepsCounts s s.motionAndLanesApplied := by
    rw [motionAndLanesApplied_eq]
    exact ⟨rfl, rfl, rfl⟩
  exact hfirst.trans (.foldl _ (applyOutput_counts _) allEight _)

theorem applyStaged_eq (s : State) :
    applyStaged s = { s.outputsApplied with trk := { s.outputsApplied.trk with
      patterns := Oct.ofFn fun n => s.trk.patterns.get n % (s.lcu.staged.stations.get n).patternLength } } := by
  have hactive : s.outputsApplied.lcu.active = s.lcu.staged := by
    rw [(outputsApplied_keeps s).active, motionAndLanesApplied_eq]
  have hpatterns : s.outputsApplied.trk.patterns = s.trk.patterns := (outputsApplied_counts s).patterns
  rw [← hpatterns, ← hactive]
  rfl

/-- The part as the end notices of an APPLY find it, TRK and RPT alone considered. -/
def State.beforeEndNotices (s : State) : State := { s with rpt := { s.rpt with latchDue := s.applyUnjams } }

/-- The outputs whose pulses an APPLY cuts short (R90). -/
def State.cutShort (s : State) : List OutputId :=
  allEight.filter fun n => (s.out.get n).cutShort (s.lcu.active.outputs.get n) (s.lcu.staged.outputs.get n)

theorem motionAndLanesApplied_sameTracking {s : State} (h : s.rpt.latchDue = false) :
    SameTracking s.motionAndLanesApplied s.beforeEndNotices := by
  rw [motionAndLanesApplied_eq, h, Bool.false_or]
  exact ⟨rfl, rfl, rfl, rfl⟩

theorem outputsApplied_sameTracking {s u : State} (h : SameTracking s.motionAndLanesApplied u) :
    SameTracking s.outputsApplied (s.cutShort.foldl (fun u n => endNotice (s.out.get n).attached true u) u) := by
  have hall := foldl_applyOutput_sameTracking h s.lcu.active
  have hout : s.motionAndLanesApplied.out = s.out := by rw [motionAndLanesApplied_eq]
  have hactive : s.motionAndLanesApplied.lcu.active = s.lcu.staged := by rw [motionAndLanesApplied_eq]
  rwa [hout, hactive] at hall

/-- A successful APPLY as the row leaves it, by the part as its owner finds it and LNK as its reply leaves it. -/
def State.applied (s : State) (l : Lnk) : State := concluded { applyStaged s with lnk := l }

theorem exec_apply_valid {s : State} {q : Byte} (h : Takes s 0x1F q []) (hv : applyCheck s = none) :
    exec (.apply q []) s = .next ((s.taking q).applied (s.lnk.afterTaken 0x1F q [] ⟨.ok, [0, 0, 0], .none⟩)) := by
  have hcheck : applyCheck (s.taking q) = none := hv
  have hcommand : instantCommand .apply [] (s.taking q)
      = some (applyStaged (s.taking q), answer .ok (validationBytes none)) := by
    simp only [instantCommand, commandApply, hcheck]
  have hlnk : (applyStaged (s.taking q)).lnk = (s.taking q).lnk := by
    rw [applyStaged_eq, (outputsApplied_keeps _).lnk, motionAndLanesApplied_eq]
  rw [exec_frame rfl, receiveFrame_instant h (by decide) (by decide) (by decide) hcommand hlnk]
  rfl

theorem KeepsBeyondReports.eq {s t : State} (h : KeepsBeyondReports s t) : t = { s with rpt := t.rpt } :=
  ((keeps_rpt { s with rpt := t.rpt } s.rpt).trans h).toKeepsBeyondTracking.eq h.line h.trk h.out rfl

section

variable (s : State) (l : Lnk)

theorem applied_eq :
    s.applied l = { s.outputsApplied with
      trk := { s.outputsApplied.trk with
        patterns := Oct.ofFn fun n => s.trk.patterns.get n % (s.lcu.staged.stations.get n).patternLength }
      lnk := l
      rpt := (s.applied l).rpt } := by
  have h := (concluded_keeps { applyStaged s with lnk := l }).eq
  rw [applyStaged_eq] at h
  unfold State.applied
  rw [applyStaged_eq]
  exact h

theorem applied_lcu : (s.applied l).lcu = { s.lcu with active := s.lcu.staged, line := (s.applied l).lcu.line } := by
  have hstaged : (s.applied l).lcu.staged = s.lcu.staged := by
    rw [applied_eq, (outputsApplied_keeps s).staged, motionAndLanesApplied_eq]
  have hactive : (s.applied l).lcu.active = s.lcu.staged := by
    rw [applied_eq, (outputsApplied_keeps s).active, motionAndLanesApplied_eq]
  exact congrArg₂ (Lcu.mk (s.applied l).lcu.line) hstaged hactive

/-- An APPLY changes the line state only where a disable retires the last item of a drain (R134). -/
theorem applied_line :
    (s.applied l).lcu.line = s.lcu.line
      ∨ (s.lcu.line = .draining ∧ (s.applied l).lcu.line = .setup ∧ (s.applied l).trk.table = []) := by
  have hlnk : Evolves ∅ (applyStaged s) { applyStaged s with lnk := l } := .of_same ∅ rfl rfl rfl
  have hevolves := ((applyStaged_evolves s).trans hlnk).trans (.of_reports (concluded_keeps _))
  have hline : (s.applied l).lcu.line = _ := hevolves.line
  split at hline
  next hdrained => exact .inr ⟨hdrained.1, hline, hdrained.2.2⟩
  next => exact .inl hline

theorem applied_mot :
    (s.applied l).mot = State.motAfter s.lcu.active.motion { s with lcu := { s.lcu with active := s.lcu.staged } } := by
  rw [applied_eq, (outputsApplied_keeps s).mot, motionAndLanesApplied_eq]

theorem applied_det_get (n : LaneId) :
    (s.applied l).det.get n =
      (s.det.get n).afterApply (s.lcu.active.lanes.get n) (s.lcu.staged.lanes.get n) (s.pins.det.get n) := by
  rw [applied_eq, (outputsApplied_keeps s).det, motionAndLanesApplied_get]

theorem applied_out_get (n : OutputId) :
    (s.applied l).out.get n =
      (s.out.get n).afterApply (s.lcu.active.outputs.get n) (s.lcu.staged.outputs.get n) s.now := by
  rw [applied_eq]
  unfold State.outputsApplied
  rw [foldl_applyOutput_get, motionAndLanesApplied_eq]

theorem applied_patterns_get (n : StationId) :
    (s.applied l).trk.patterns.get n = s.trk.patterns.get n % (s.lcu.staged.stations.get n).patternLength := by
  rw [applied_eq]
  exact Oct.get_ofFn _ n

theorem applied_counts : (s.applied l).trk.nextTag = s.trk.nextTag ∧ (s.applied l).trk.lanes = s.trk.lanes := by
  have hcounts := outputsApplied_counts s
  rw [applied_eq]
  exact ⟨hcounts.nextTag, hcounts.lanes⟩

theorem applied_rest :
    (s.applied l).pending = s.pending ∧ (s.applied l).now = s.now ∧ (s.applied l).pins = s.pins
      ∧ (s.applied l).requests = s.requests ∧ (s.applied l).cmd = s.cmd ∧ (s.applied l).drawn = s.drawn := by
  have hk := outputsApplied_keeps s
  rw [motionAndLanesApplied_eq] at hk
  rw [applied_eq]
  exact ⟨hk.pending, hk.now, hk.pins, hk.requests, hk.cmd, hk.drawn⟩

/-- TRK and RPT after an APPLY, from any state that stands for them after the end notices. -/
theorem applied_tracking {u : State} (h : SameTracking s.outputsApplied u) :
    (s.applied l).trk = { u.trk with patterns := (s.applied l).trk.patterns } ∧ (s.applied l).lcu.line = u.lcu.line
      ∧ s.applied l = concluded { s.applied l with rpt := u.rpt } := by
  refine ⟨?_, ?_, ?_⟩
  · rw [applied_eq, h.trk]
  · rw [applied_eq, h.line]
  · have hbefore : { s.applied l with rpt := u.rpt } = { applyStaged s with lnk := l } := by
      rw [applied_eq, applyStaged_eq, h.rpt]
    rw [hbefore]
    rfl

end

/-- Settles O25: each block's part of the APPLY is told by itself, on the part as the command's owner finds it. -/
theorem applyMakesTheStagedCopyActive : Obligations.ApplyMakesTheStagedCopyActive := by
  intro s q h hv
  have ⟨⟨⟨hdue, _⟩, _⟩, _⟩ := h
  have hmot := applied_mot (s.taking q) (s.lnk.afterTaken 0x1F q [] ⟨.ok, [0, 0, 0], .none⟩)
  have hbefore : SameTracking (s.taking q).motionAndLanesApplied s.beforeEndNotices := by
    have hfirst := motionAndLanesApplied_sameTracking (s := s.taking q) hdue
    exact ⟨hfirst.trk, hfirst.line, hfirst.rpt, hfirst.position⟩
  refine ⟨_, exec_apply_valid h hv, applied_lcu .., applied_line .., ?_, ?_, ?_, ?_, fun n => applied_det_get _ _ n,
    fun n => applied_out_get _ _ n, fun n => applied_patterns_get _ _ n, ?_, ?_,
    applied_tracking _ _ (outputsApplied_sameTracking hbefore), (applied_counts ..).1, (applied_counts ..).2, applied_rest ..⟩
  · rw [applied_eq]
  · rw [hmot]
    rfl
  · intro hold hnew
    rw [hmot]
    exact if_pos ⟨hold, hnew⟩
  · intro hold hnew
    have hpace : State.paceAfter s.lcu.active.motion
        { s.taking q with lcu := { (s.taking q).lcu with active := (s.taking q).lcu.staged } } = (0, s.now, 0) :=
      if_pos ⟨hnew, hold⟩
    rw [hmot]
    exact ⟨congrArg (·.1) hpace, congrArg (·.2.1) hpace, congrArg (·.2.2) hpace⟩
  · rw [hmot]
    rfl
  · rw [hmot]
    rfl

end Sys2Proof.Machine

end

/-! ## Proofs: O56, the form of the outputs (R75, R76, R77)

`KeepsOutputForm` says of an operation that each output it finds in good form it leaves in good form, under the same active copy. It is
shown once for each operation of OUT and passed on through TRK, DET and MOT. Only an APPLY and a reset change the active copy. -/

section

namespace Sys2Proof.Machine

open Sys2Proof

/-! ### One output -/

theorem outputsInv_iff {s : State} : OutputsInv s ↔ ∀ n, (s.out.get n).Ok (s.lcu.active.outputs.get n).polarity :=
  ⟨fun h n => h n (Sys2Proof.mem_allEight n), fun h n _ => h n⟩

theorem Output.reset_ok : Output.reset.Ok .activeHigh := by decide

section

variable {o : Output} {p : Polarity} (h : o.Ok p)

include h

theorem Output.Ok.withWaiting {l : List Request} (hlen : l.length ≤ 8) (hsorted : l.Pairwise fun a b => a.start ≤ b.start) :
    { o with waiting := l }.Ok p := by
  obtain ⟨hlevel, hpulse, hrecovery, hmaxOn, -, -⟩ := h
  exact ⟨hlevel, hpulse, hrecovery, hmaxOn, hlen, hsorted⟩

theorem Output.Ok.sublist {l : List Request} (hl : l.Sublist o.waiting) : { o with waiting := l }.Ok p := by
  have ⟨_, _, _, _, hlen, hsorted⟩ := h
  exact h.withWaiting (hl.length_le.trans hlen) (hsorted.sublist hl)

/-- A pulse replaced by a pulse, and none by none. -/
theorem Output.Ok.withPulse {q : Option Pulse} (hq : q.isSome = o.pulse.isSome) : { o with pulse := q }.Ok p := by
  obtain ⟨hlevel, hpulse, hrest⟩ := h
  refine ⟨hlevel, ?_, hrest⟩
  show q.isSome = true ↔ _
  rw [hq]
  exact hpulse

theorem Output.Ok.shed {k : Output} (hk : Output.Shed o k) : k.Ok p := by
  have hpulse : k.pulse.isSome = o.pulse.isSome := by simpa using congrArg Option.isSome hk.pulse
  rw [hk.rest]
  exact (h.sublist hk.waiting).withPulse (q := k.pulse) hpulse

/-- An output rests in good form under whatever object it has now. -/
theorem Output.Ok.rested (x : OutputConfig) (now : Nat) : (o.rested x now).Ok x.polarity := by
  obtain ⟨-, -, -, -, hlen, hsorted⟩ := h
  unfold Output.rested
  by_cases hx : x.recovery = 0 <;> simp [Output.Ok, levelFor, hx, hlen, hsorted]

/-- A pulse begins in good form, whatever its end values. -/
theorem Output.Ok.begun (q : Pulse) (maxOn : Option Nat) (started : Counter) :
    { o with
      state := .active, level := levelFor p .active, pulse := some q, maxOn := maxOn, recovery := none,
      started := started }.Ok p := by
  obtain ⟨-, -, -, -, hlen, hsorted⟩ := h
  exact ⟨rfl, by simp, by simp, fun _ => rfl, hlen, hsorted⟩

/-- A line driven to its state's level anew, under whatever polarity. -/
theorem Output.Ok.redriven (q : Polarity) : { o with level := levelFor q o.state }.Ok q := by
  obtain ⟨-, hrest⟩ := h
  exact ⟨rfl, hrest⟩

/-- An output without a pulse or a recovery timer is driven to IDLE or FORCED, and to its level (R86, R94). -/
theorem Output.Ok.settled {st : OutputState} (hp : o.pulse = none) (hm : o.maxOn = none) (hst : st = .idle ∨ st = .forced) :
    { o with state := st, level := levelFor p st, recovery := none }.Ok p := by
  obtain ⟨-, -, -, -, hlen, hsorted⟩ := h
  rcases hst with rfl | rfl <;> exact ⟨rfl, by simp [hp], by simp, by simp [hm], hlen, hsorted⟩

/-- Out of ACTIVE there is neither a pulse nor a max-on timer (R76). -/
theorem Output.Ok.no_pulse (hs : o.state ≠ .active) : o.pulse = none ∧ o.maxOn = none := by
  obtain ⟨-, hpulse, -, hmaxOn, -⟩ := h
  constructor
  · simpa using fun hp => hs (hpulse.mp hp)
  · simpa using fun hm => hs (hmaxOn hm)

/-- Out of RECOVERY the recovery timer does not run (R76). -/
theorem Output.Ok.no_recovery (hs : o.state ≠ .recovery) : o.recovery = none := by
  obtain ⟨-, -, hrecovery, -⟩ := h
  simpa using fun hr => hs (hrecovery.mp hr)

theorem Output.Ok.afterApply (old new : OutputConfig) (now : Nat) : (o.afterApply old new now).Ok new.polarity := by
  unfold Output.afterApply
  split
  · exact h.rested new now
  · exact h.redriven new.polarity

end

/-! ### The pending list (R77) -/

theorem insertRequest_perm (r : Request) (l : List Request) : (insertRequest r l).Perm (r :: l) := by
  induction l with
  | nil => exact .refl _
  | cons q qs ih =>
    unfold insertRequest
    split
    · exact (ih.cons q).trans (.swap r q qs)
    · exact .refl _

theorem insertRequest_sorted (r : Request) {l : List Request} (h : l.Pairwise fun a b => a.start ≤ b.start) :
    (insertRequest r l).Pairwise fun a b => a.start ≤ b.start := by
  induction l with
  | nil => exact List.pairwise_singleton _ r
  | cons q qs ih =>
    obtain ⟨hq, hqs⟩ := List.pairwise_cons.mp h
    unfold insertRequest
    split
    · next hr =>
      refine List.pairwise_cons.mpr ⟨fun x hx => ?_, ih hqs⟩
      rcases List.mem_cons.mp ((insertRequest_perm r qs).mem_iff.mp hx) with rfl | hx
      · exact hr
      · exact hq x hx
    · next hr =>
      have hrq : r.start ≤ q.start := Nat.le_of_not_le hr
      refine List.pairwise_cons.mpr ⟨fun x hx => ?_, h⟩
      rcases List.mem_cons.mp hx with rfl | hx
      · exact hrq
      · exact hrq.trans (hq x hx)

theorem Output.Ok.insert {o : Output} {p : Polarity} (h : o.Ok p) (r : Request) (hroom : o.waiting.length < 8) :
    { o with waiting := insertRequest r o.waiting }.Ok p := by
  have ⟨_, _, _, _, _, hsorted⟩ := h
  refine h.withWaiting ?_ (insertRequest_sorted r hsorted)
  rw [(insertRequest_perm r o.waiting).length_eq]
  exact hroom

/-! ### The relation -/

/-- Every output found in good form is left in good form, and the active copy stays. -/
structure KeepsOutputForm (s t : State) : Prop where
  active : t.lcu.active = s.lcu.active
  form : ∀ n, (s.out.get n).Ok (s.lcu.active.outputs.get n).polarity → (t.out.get n).Ok (s.lcu.active.outputs.get n).polarity

theorem OutputsInv.keeps {s t : State} (h : OutputsInv s) (k : KeepsOutputForm s t) : OutputsInv t := by
  rw [outputsInv_iff] at h ⊢
  rw [k.active]
  exact fun n => k.form n (h n)

theorem KeepsOutputForm.refl (s : State) : KeepsOutputForm s s := ⟨rfl, fun _ h => h⟩

theorem KeepsOutputForm.trans {a b c : State} (h : KeepsOutputForm a b) (k : KeepsOutputForm b c) : KeepsOutputForm a c where
  active := k.active.trans h.active
  form n ho := by
    have hc := k.form n
    rw [h.active] at hc
    exact hc (h.form n ho)

theorem KeepsOutputForm.foldl {α : Type} (f : State → α → State) (h : ∀ s a, KeepsOutputForm s (f s a)) (l : List α) :
    ∀ s, KeepsOutputForm s (l.foldl f s) := by
  induction l with
  | nil => exact .refl
  | cons a l ih => exact fun s => (h s a).trans (ih (f s a))

theorem KeepsOutputForm.of_out {s t : State} (hout : t.out = s.out) (hactive : t.lcu.active = s.lcu.active) :
    KeepsOutputForm s t := ⟨hactive, fun n h => by rw [hout]; exact h⟩

/-- An operation on a state with the outputs and the active copy of another. -/
theorem KeepsOutputForm.from_same {s u t : State} (h : KeepsOutputForm u t) (hout : u.out = s.out)
    (hactive : u.lcu.active = s.lcu.active) : KeepsOutputForm s t := (KeepsOutputForm.of_out hout hactive).trans h

theorem KeepsOutputForm.of_reports {s t : State} (h : KeepsBeyondReports s t) : KeepsOutputForm s t :=
  .of_out h.out h.active

theorem KeepsOutputForm.of_shed {s t : State} (h : OutputsShed s t) (hactive : t.lcu.active = s.lcu.active) :
    KeepsOutputForm s t := ⟨hactive, fun n ho => ho.shed (h n)⟩

theorem mapOutput_form (n : OutputId) (f : Output → Output) (s : State)
    (hf : (s.out.get n).Ok (s.outputConfig n).polarity → (f (s.out.get n)).Ok (s.outputConfig n).polarity) :
    KeepsOutputForm s (mapOutput n f s) where
  active := rfl
  form m h := by
    rw [mapOutput_get]
    split
    · next hm => subst hm; exact hf h
    · exact h

/-! ### Notices and removals -/

theorem retireIfDone_form (t : Tag) (s : State) : KeepsOutputForm s (retireIfDone t s) :=
  .of_out (retireIfDone_out t s) (retireIfDone_keeps t s).active

theorem startNotice_form (t : Tag) (st : StationId) (m l : Bool) (s : State) : KeepsOutputForm s (startNotice t st m l s) :=
  .of_out (startNotice_out t st m l s) (startNotice_keeps t st m l s).active

theorem missNotice_form (t : Tag) (st : StationId) (c : MissCause) (s : State) : KeepsOutputForm s (missNotice t st c s) :=
  .of_out (missNotice_out t st c s) (missNotice_keeps t st c s).active

theorem endNotice_form (ps : List (Tag × StationId)) (b : Bool) (s : State) : KeepsOutputForm s (endNotice ps b s) :=
  .of_out (endNotice_out ps b s) (endNotice_keeps ps b s).active

/-! ### OUT -/

theorem restOutput_form (n : OutputId) (s : State) : KeepsOutputForm s (restOutput n s) where
  active := rfl
  form m h := by
    rw [restOutput_eq, Oct.get_set]
    split
    · next hm => subst hm; exact h.rested _ _
    · exact h

theorem endPulse_form (n : OutputId) (b : Bool) (s : State) : KeepsOutputForm s (endPulse n b s) := by
  unfold endPulse
  split
  · exact .refl s
  · dsimp only
    refine KeepsOutputForm.trans ?_ (endNotice_form _ _ _)
    split
    · exact (restOutput_form n s).trans (mapOutput_form n _ _ fun h => h)
    · exact restOutput_form n s

theorem endIfMet_form (n : OutputId) (s : State) : KeepsOutputForm s (endIfMet n s) := by
  unfold endIfMet
  split
  · exact .refl s
  · split
    · exact endPulse_form n false s
    · exact .refl s

theorem tickEnd_form (n : OutputId) (s : State) : KeepsOutputForm s (tickEnd n s) := by
  unfold tickEnd
  split
  · exact .refl s
  · split
    · exact endPulse_form n false s
    · exact .refl s

theorem beginPulse_form (n : OutputId) (p : Pulse) (s : State) : KeepsOutputForm s (beginPulse n p s) := by
  unfold beginPulse
  exact mapOutput_form n _ s fun h => h.begun p _ _

/-- A merge puts a pulse in a pulse's place (R82). -/
theorem mergePulse_form (n : OutputId) (r : Request) (s : State) :
    KeepsOutputForm s (mapOutput n (fun o => { o with
      pulse := o.pulse.map (·.extend r s.now)
      merged := o.merged + 1 }) s) :=
  mapOutput_form n _ s fun h => h.withPulse Option.isSome_map

theorem refuseBusy_form (n : OutputId) (r : Request) (s : State) : KeepsOutputForm s (refuseBusy n r s) :=
  (mapOutput_form n _ s fun h => h).trans (missNotice_form _ _ _ _)

theorem takeStart_form (n : OutputId) (l : Bool) (r : Request) (s : State) : KeepsOutputForm s (takeStart n l r s) := by
  have herase : KeepsOutputForm s (mapOutput n (fun o => { o with waiting := o.waiting.erase r }) s) :=
    mapOutput_form n _ s fun h => h.sublist List.erase_sublist
  unfold takeStart
  refine herase.trans ?_
  dsimp only
  split
  · split
    · exact ((beginPulse_form n _ _).trans (startNotice_form _ _ _ _ _)).trans (endIfMet_form n _)
    · exact (mergePulse_form n r _).trans (startNotice_form _ _ _ _ _)
    · exact refuseBusy_form n r _
  · exact missNotice_form _ _ _ _

theorem takeStarts_form (n : OutputId) (rs : List Request) (s : State) : KeepsOutputForm s (takeStarts n rs s) :=
  .foldl _ (fun s r => takeStart_form n false r s) rs s

theorem tickOutput_form (k : Nat) (n : OutputId) (s : State) : KeepsOutputForm s (tickOutput k n s) :=
  ((takeStarts_form n _ s).trans (tickEnd_form n _)).trans (takeStarts_form n _ _)

theorem filed_form {n : OutputId} (r : Request) {s : State} (hroom : (s.out.get n).waiting.length < 8) :
    KeepsOutputForm s (s.filed n r) := by
  have hinsert : KeepsOutputForm s (mapOutput n (fun o => { o with waiting := insertRequest r o.waiting }) s) :=
    mapOutput_form n _ s fun h => h.insert r hroom
  exact hinsert.trans (.of_out rfl rfl)

theorem handRequest_form (n : OutputId) (r : Request) (s : State) : KeepsOutputForm s (handRequest n r s) := by
  by_cases hroom : (s.out.get n).waiting.length < 8
  · by_cases hr : s.mot.position < r.start
    · rw [handRequest_later hroom hr]
      exact filed_form r hroom
    · rw [handRequest_reached hroom (not_lt.mp hr)]
      exact (filed_form r hroom).trans (.foldl _ (fun u q => takeStart_form n _ q u) _ _)
  · rw [handRequest_full (not_lt.mp hroom)]
    exact .of_out rfl rfl

/-! ### TRK -/

theorem firstDecision_form (i : Item) (s : State) : KeepsOutputForm s (firstDecision i s) :=
  .of_out (firstDecision_out i s) (firstDecision_keeps i s).active

theorem commitEntry_form (t : Tag) (st : StationId) (s : State) : KeepsOutputForm s (commitEntry t st s) := by
  unfold commitEntry
  split
  · exact .refl s
  · split
    · dsimp only
      split
      · exact .refl s
      · exact handRequest_form _ _ s
      · split
        · exact (firstDecision_form _ s).trans (handRequest_form _ _ _)
        · exact (firstDecision_form _ s).trans (.of_out rfl rfl)
    · exact .refl s

theorem tickTracking_form (s : State) : KeepsOutputForm s (tickTracking s) :=
  .foldl _ (fun s (p : Tag × StationId) => (commitEntry_form p.1 p.2 s).trans (retireIfDone_form p.1 _)) _ s

theorem placeItem_form (i : Item) (s : State) : KeepsOutputForm s (placeItem i s) := by
  unfold placeItem
  dsimp only
  split <;> exact .of_out rfl rfl

theorem selectPattern_form (t : Tag) (s : State) (st : StationId) : KeepsOutputForm s (selectPattern t s st) := by
  unfold selectPattern
  dsimp only
  split
  · split <;> exact .of_out rfl rfl
  · exact .refl s

theorem announceItem_form (i : Item) (s : State) : KeepsOutputForm s (announceItem i s) := by
  unfold announceItem
  split
  · exact .of_reports (passEvent_keeps _ s)
  · exact .refl s

theorem createItem_form (r : CreationRequest) (s : State) : KeepsOutputForm s (createItem r s) :=
  ((((placeItem_form _ s).trans (.foldl _ (selectPattern_form _) _ _)).trans (announceItem_form _ _)).trans
    (.foldl _ (fun s st => commitEntry_form _ st s) _ _)).trans (retireIfDone_form _ _)

theorem takeRequest_form (n : LaneId) (s : State) : KeepsOutputForm s (takeRequest n s) := by
  unfold takeRequest takeCreation
  split
  · exact .refl s
  · split
    · exact .of_out rfl rfl
    · split
      · exact KeepsOutputForm.from_same (.of_reports (passFault_keeps _ _)) rfl rfl
      · exact (createItem_form _ _).from_same rfl rfl

theorem purgeItems_form (c : PurgeCause) (scope : Option LaneId) (s : State) : KeepsOutputForm s (purgeItems c scope s) :=
  .of_shed (purgeItems_shed c scope s) (purgeItems_keeps c scope s).active

theorem setLine_form (l : LineState) (s : State) : KeepsOutputForm s (setLine l s) :=
  .of_out (setLine_out l s) (setLine_keeps l s).active

theorem haltLine_form (c : PurgeCause) (s : State) : KeepsOutputForm s (haltLine c s) :=
  (setLine_form _ s).trans (purgeItems_form c none _)

theorem takePair_form (t : Tag) (b : Byte) (s : State) : KeepsOutputForm s (takePair t b s).1 := by
  unfold takePair
  split
  · exact .refl s
  · split
    · exact .refl s
    · split
      · exact .refl s
      · dsimp only
        split <;> exact .of_out rfl rfl

/-! ### DET -/

theorem overlongTest_form (s : State) (n : LaneId) : KeepsOutputForm s (overlongTest s n) := by
  unfold overlongTest
  dsimp only
  split
  · split
    · split <;> exact .of_out rfl rfl
    · exact .refl s
  · exact .refl s

theorem acceptEdge_form (n : LaneId) (edge : Nat) (s : State) : KeepsOutputForm s (acceptEdge n edge s) := by
  unfold acceptEdge acceptLeading acceptTrailing
  dsimp only
  split
  · split
    · exact .of_out rfl rfl
    · split <;> exact .of_out rfl rfl
  · split
    · exact .of_out rfl rfl
    all_goals split <;> exact .of_out rfl rfl
  · exact .of_out rfl rfl
  · exact .of_out rfl rfl

theorem judgeSample_form (n : LaneId) (level : Bool) (s : State) : KeepsOutputForm s (judgeSample n level s) := by
  unfold judgeSample startCandidate
  dsimp only
  split
  · exact .refl s
  · split
    · exact acceptEdge_form n _ s
    · exact .of_out rfl rfl
  · exact .refl s
  · exact .of_out rfl rfl

theorem sampleDetector_form (n : LaneId) (level : Bool) (s : State) : KeepsOutputForm s (sampleDetector n level s) := by
  unfold sampleDetector
  dsimp only
  split
  · exact (judgeSample_form n level _).from_same rfl rfl
  · exact .of_out rfl rfl

theorem debounceExpiry_form (n : LaneId) (s : State) : KeepsOutputForm s (debounceExpiry n s) := by
  unfold debounceExpiry
  split
  · exact .refl s
  · exact (acceptEdge_form n _ _).from_same rfl rfl

/-! ### MOT -/

theorem advancePosition_form (s : State) : KeepsOutputForm s (advancePosition s) := by
  unfold advancePosition
  split <;> exact .of_out rfl rfl

theorem markMoving_form (s : State) : KeepsOutputForm s (markMoving s) := by
  rw [markMoving_eq]
  exact .of_out rfl rfl

theorem tickOutputs_form (o : TickOrder) (ns : List OutputId) (s : State) : KeepsOutputForm s (tickOutputs o ns s) :=
  .foldl _ (fun s n => tickOutput_form _ n s) ns s

theorem forwardTick_form (o : TickOrder) (s : State) : KeepsOutputForm s (forwardTick o s) :=
  (((((advancePosition_form s).trans (markMoving_form _)).trans (.foldl _ overlongTest_form allLanes _)).trans
    (tickOutputs_form o _ _)).trans (tickTracking_form _)).trans (tickOutputs_form o _ _)

theorem forwardCount_form (o : TickOrder) (s : State) : KeepsOutputForm s (forwardCount o s) := by
  unfold forwardCount
  split
  · exact forwardTick_form o s
  · dsimp only
    split <;> exact .of_out rfl rfl

theorem setDebt_form (d : Nat) (s : State) : KeepsOutputForm s (setDebt d s) := by
  unfold setDebt
  dsimp only
  split <;> exact .of_out rfl rfl

theorem reverseCount_form (s : State) : KeepsOutputForm s (reverseCount s) := by
  have hdebt := setDebt_form (s.mot.debt + 1) s
  unfold reverseCount
  dsimp only
  split
  · exact .refl s
  · split
    · exact (hdebt.trans (.of_reports (passFault_keeps _ _))).trans (haltLine_form _ _)
    · exact hdebt

theorem encoderSample_form (x : Bool × Bool) (o : TickOrder) (s : State) : KeepsOutputForm s (encoderSample x o s) := by
  unfold encoderSample illegalTransition
  dsimp only
  split
  · split
    · exact .of_out rfl rfl
    · split
      · split <;> exact .of_out rfl rfl
      · split
        · exact (forwardCount_form o _).from_same rfl rfl
        · exact (reverseCount_form _).from_same rfl rfl
  · exact .of_out rfl rfl

theorem paceOverflow_form (o : TickOrder) (s : State) : KeepsOutputForm s (paceOverflow o s) := by
  unfold paceOverflow
  extract_lets rate
  split
  · split
    · exact (forwardCount_form o _).from_same rfl rfl
    · rename_i k u _ _
      have hout : u.out = s.out := mapMot_out s _
      have hlcu : u.lcu = s.lcu := mapMot_lcu s _
      exact (forwardCount_form o _).from_same (by rw [reachTime_out, hout]) (by rw [reachTime_lcu, hlcu])
  · exact .refl s

theorem standstillExpiry_form (s : State) : KeepsOutputForm s (standstillExpiry s) := by
  unfold standstillExpiry
  split
  · exact .refl s
  · dsimp only
    split <;> exact .of_out rfl rfl

/-! ### The timers of OUT -/

theorem endTimeExpiry_form (n : OutputId) (s : State) : KeepsOutputForm s (endTimeExpiry n s) := by
  unfold endTimeExpiry
  split
  · exact .refl s
  · exact (endIfMet_form n _).from_same rfl rfl

theorem maxOnExpiry_form (n : OutputId) (s : State) : KeepsOutputForm s (maxOnExpiry n s) := by
  unfold maxOnExpiry
  split
  · exact .refl s
  · exact (endPulse_form n true _).from_same rfl rfl

/-- A running recovery timer means RECOVERY, where there is neither a pulse nor a max-on timer to leave behind (R76, R86). -/
theorem recoveryExpiry_form (n : OutputId) (s : State) : KeepsOutputForm s (recoveryExpiry n s) := by
  unfold recoveryExpiry
  split
  · exact .refl s
  · rename_i t ht
    refine KeepsOutputForm.from_same (u := reachTime t s) (mapOutput_form n _ _ fun h => ?_) rfl rfl
    have ⟨_, _, hrecovery, _⟩ := h
    have hstate : (s.out.get n).state = .recovery := hrecovery.mp (Option.isSome_of_mem ht)
    obtain ⟨hpulse, hmaxOn⟩ := h.no_pulse (by rw [reachTime_out, hstate]; decide)
    exact h.settled hpulse hmaxOn (.inl rfl)

/-! ### Commands -/

/-- An output enters FORCED from IDLE alone, where no timer runs (R94). -/
theorem enterForced_form {n : OutputId} {s : State} (hs : (s.out.get n).state = .idle) :
    KeepsOutputForm s (enterForced n s) := by
  refine mapOutput_form n _ s fun h => ?_
  obtain ⟨hpulse, hmaxOn⟩ := h.no_pulse (by rw [hs]; decide)
  have hforced := h.settled hpulse hmaxOn (.inr rfl)
  rwa [← h.no_recovery (by rw [hs]; decide)] at hforced

theorem forceByState_form (n : OutputId) (a : ForceAction) (s : State) : KeepsOutputForm s (forceByState n a s).1 := by
  unfold forceByState
  split
  · next hs => exact enterForced_form hs
  · exact .refl s
  · exact .refl s
  · exact .refl s
  · exact .refl s
  · exact .refl s
  · exact restOutput_form n s
  · exact .refl s
  · exact beginPulse_form n _ s
  · exact beginPulse_form n _ s
  · exact .refl s
  · exact .refl s

theorem commandForceOutput_form (p : List Byte) (s : State) : KeepsOutputForm s (commandForceOutput p s).1 := by
  unfold commandForceOutput
  split
  · split
    · exact .refl s
    · exact forceByState_form _ _ s
  · exact .refl s

theorem clearCounters_form (g : CounterGroup) (s : State) : KeepsOutputForm s (clearCounters g s) := by
  cases g with
  | output n =>
    unfold clearCounters
    exact mapOutput_form n _ s fun h => h
  | lane | station | motion | link | reports => exact .of_out rfl rfl

theorem commandGetCounters_form (p : List Byte) (s : State) : KeepsOutputForm s (commandGetCounters p s).1 := by
  unfold commandGetCounters
  split
  · dsimp only
    split
    · exact clearCounters_form _ s
    · exact .refl s
  · exact .refl s

theorem clearEncoderError_form (s : State) : KeepsOutputForm s (clearEncoderError s) := by
  unfold clearEncoderError
  split
  · exact .of_out rfl rfl
  · exact .refl s

theorem acknowledge_form (n : BitVec 16) (w : Nat) (s : State) : KeepsOutputForm s (acknowledge n w s) := by
  have hstatus (b : Bool) (u : State) : KeepsOutputForm u (if b then u else passStatus u) := by
    cases b <;> exact .of_out rfl rfl
  unfold acknowledge
  dsimp only
  split
  · exact ((hstatus _ _).trans (clearEncoderError_form _)).from_same rfl rfl
  · exact (hstatus _ _).from_same rfl rfl

theorem commandReportAck_form (p : List Byte) (s : State) : KeepsOutputForm s (commandReportAck p s).1 := by
  unfold commandReportAck
  dsimp only
  split
  · exact .refl s
  · split
    · exact acknowledge_form _ _ s
    · exact .refl s

theorem stage_form (c : Option (Configuration → Configuration)) (s : State) : KeepsOutputForm s (stage c s).1 := by
  cases c <;> exact .of_out rfl rfl

theorem commandStart_form (s : State) : KeepsOutputForm s (commandStart s).1 := by
  unfold commandStart
  split
  · exact .refl s
  · split
    · exact .refl s
    · exact (setLine_form .run s).trans ((setDebt_form 0 _).from_same rfl rfl)

theorem commandStop_form (s : State) : KeepsOutputForm s (commandStop s).1 := by
  unfold commandStop
  split
  · exact setLine_form _ s
  · exact .refl s
  · exact setLine_form _ s
  · exact .refl s

theorem commandHalt_form (s : State) : KeepsOutputForm s (commandHalt s).1 := by
  unfold commandHalt
  split
  · exact haltLine_form _ s
  · exact haltLine_form _ s
  · exact .refl s
  · exact .refl s

theorem commandAbort_form (s : State) : KeepsOutputForm s (commandAbort s).1 := by
  unfold commandAbort
  split
  · exact .refl s
  all_goals exact (setLine_form _ s).trans (purgeItems_form _ _ _)

theorem commandResume_form (s : State) : KeepsOutputForm s (commandResume s).1 := by
  unfold commandResume
  split
  · exact (setLine_form _ s).trans (setDebt_form 0 _)
  all_goals exact .refl s

theorem commandPurge_form (p : List Byte) (s : State) : KeepsOutputForm s (commandPurge p s).1 := by
  unfold commandPurge
  split
  · exact .refl s
  · split
    · exact purgeItems_form _ _ s
    · exact purgeItems_form _ _ s
    · exact .refl s
    · exact .refl s

/-- A successful APPLY gives each output a new object, and leaves its line, pulse and timers in the form that object calls for
(R75, R90, R91). -/
theorem applyStaged_outputsInv {s : State} (h : OutputsInv s) : OutputsInv (applyStaged s) := by
  rw [outputsInv_iff] at h ⊢
  intro n
  have hactive : (applyStaged s).lcu.active = s.lcu.staged := by
    rw [applyStaged_eq, (outputsApplied_keeps s).active, motionAndLanesApplied_eq]
  have hout : (applyStaged s).out.get n =
      (s.out.get n).afterApply (s.lcu.active.outputs.get n) (s.lcu.staged.outputs.get n) s.now := by
    rw [applyStaged_eq]
    unfold State.outputsApplied
    rw [foldl_applyOutput_get, motionAndLanesApplied_eq]
  rw [hout, hactive]
  exact (h n).afterApply _ _ _

theorem commandApply_outputsInv {s : State} (h : OutputsInv s) : OutputsInv (commandApply s).1 := by
  unfold commandApply
  split
  · exact h
  · exact applyStaged_outputsInv h

theorem instantCommand_outputsInv (k : Kind) (p : List Byte) {s : State} (h : OutputsInv s) :
    ∀ x ∈ instantCommand k p s, OutputsInv x.1 := by
  rintro x hx
  cases k
  case verdict => cases hx
  case advance =>
    obtain ⟨r, -, rfl⟩ := Option.map_eq_some_iff.mp hx
    exact h
  case setLink => cases hx; unfold commandSetLink; split <;> exact h
  case readConfig => cases hx; unfold commandReadConfig; split <;> exact h
  case readItem =>
    cases hx
    unfold commandReadItem
    dsimp only
    split
    · exact h
    · split <;> exact h
  case listItems => cases hx; unfold commandListItems; split <;> exact h
  case getCounters => cases hx; exact h.keeps (commandGetCounters_form p s)
  case reportAck => cases hx; exact h.keeps (commandReportAck_form p s)
  case start => cases hx; exact h.keeps (commandStart_form s)
  case stop => cases hx; exact h.keeps (commandStop_form s)
  case halt => cases hx; exact h.keeps (commandHalt_form s)
  case abort => cases hx; exact h.keeps (commandAbort_form s)
  case resume => cases hx; exact h.keeps (commandResume_form s)
  case purge => cases hx; exact h.keeps (commandPurge_form p s)
  case setMotion | setLane | setStation | setOutput | setReporting => cases hx; exact h.keeps (stage_form _ s)
  case apply => cases hx; exact commandApply_outputsInv h
  case forceOutput => cases hx; exact h.keeps (commandForceOutput_form p s)
  case identify | linkResume | getStatus | replay | resetPart | revert =>
    cases hx
    exact h.keeps (.of_out rfl rfl)

/-! ### Every step -/

theorem partReset_outputsInv (s : State) : OutputsInv (partReset s) := by
  rw [outputsInv_iff]
  intro n
  show ((Oct.same Output.reset).get n).Ok ((Oct.same defaultOutput).get n).polarity
  rw [Oct.get_same, Oct.get_same]
  exact Output.reset_ok

theorem outputsInv_keptByBlocks : KeptByBlocks OutputsInv where
  frame h ht := h.keeps (.of_out ht.out (by rw [ht.lcu]))
  command k p _ h := instantCommand_outputsInv k p h
  reset := partReset_outputsInv
  pair t b _ h := h.keeps (takePair_form t b _)
  encoder x o _ h := h.keeps (encoderSample_form x o _)
  pace o _ h := h.keeps (paceOverflow_form o _)
  count o _ h := h.keeps (forwardCount_form o _)
  standstill h := h.keeps (standstillExpiry_form _)
  sample n level _ h := h.keeps (sampleDetector_form n level _)
  debounce n _ h := h.keeps (debounceExpiry_form n _)
  creation n _ h := h.keeps (takeRequest_form n _)
  endTime n _ h := h.keeps (endTimeExpiry_form n _)
  maxOn n _ h := h.keeps (maxOnExpiry_form n _)
  recovery n _ h := h.keeps (recoveryExpiry_form n _)

/-- Settles O56: each operation of OUT leaves an output in the form of the state it enters, and every row acts by these. -/
theorem outputFormIsKept : Obligations.OutputFormIsKept := fun _ _ => outputsInv_keptByBlocks.step_keeps

end Sys2Proof.Machine

end

/-! ## Proofs: O30, FORCE_OUTPUT (R94) -/

section

namespace Sys2Proof.Machine

open Sys2Proof

/-! ### The payload -/

theorem finOf_output (n : OutputId) : finOf 8 (byteOf n.val) = some n := (finOf_eq_some (by decide)).mpr rfl

theorem finOf_output_none {o : Byte} (h : 7 < o.toNat) : finOf 8 o = none := dif_neg (by omega)

theorem forceDuration_eq_zero {o a d1 d2 : Byte} : num16 [o, a, d1, d2] 2 = 0 ↔ d1 = 0 ∧ d2 = 0 := by
  show d1.toNat + 256 * d2.toNat = 0 ↔ _
  rw [← BitVec.toNat_inj, ← BitVec.toNat_inj]
  simp

theorem forceActionOf_pulse {d : Nat} (h : d ≠ 0) : forceActionOf 2 d = some (.pulse d) := by
  simp [forceActionOf, h]

/-- An action that cannot be read: none of the three, or a PULSE of duration 0 (R94). -/
theorem forceActionOf_eq_none {a : Byte} {d : Nat} : forceActionOf a d = none ↔ 2 < a.toNat ∨ (a = 2 ∧ d = 0) := by
  have hcode (k : Byte) : a = k ↔ a.toNat = k.toNat := BitVec.toNat_inj.symm
  have h0 : (0 : Byte).toNat = 0 := rfl
  have h1 : (1 : Byte).toNat = 1 := rfl
  have h2 : (2 : Byte).toNat = 2 := rfl
  simp only [forceActionOf, hcode, h0, h1, h2]
  split_ifs <;> simp <;> omega

/-! ### The command -/

theorem mayForce_iff {s : State} {n : OutputId} :
    MayForce s n ↔ (!(s.outputConfig n).enabled || s.outputNamed n) = false := by
  have hnamed : s.outputNamed n = false ↔
      ∀ st, (s.lcu.active.stations.get st).kind = .off ∨ (s.lcu.active.stations.get st).output ≠ n := by
    simp [State.outputNamed, Sys2Proof.mem_allEight, imp_iff_not_or]
  rw [Bool.or_eq_false_iff, hnamed, Bool.not_eq_false']
  rfl

section

variable {s : State} {o a d1 d2 : Byte}

theorem commandForceOutput_badArgument (h : 7 < o.toNat ∨ 2 < a.toNat ∨ (a = 2 ∧ d1 = 0 ∧ d2 = 0)) :
    commandForceOutput [o, a, d1, d2] s = (s, answer .badArgument []) := by
  unfold commandForceOutput
  rcases h with ho | ha
  · have hn : finOf 8 (byteAt [o, a, d1, d2] 0) = none := finOf_output_none ho
    rw [hn]
  · have hnone : forceActionOf (byteAt [o, a, d1, d2] 1) (num16 [o, a, d1, d2] 2) = none := by
      rw [← forceDuration_eq_zero (o := o) (a := a)] at ha
      exact forceActionOf_eq_none.mpr ha
    rw [hnone]
    cases finOf 8 (byteAt [o, a, d1, d2] 0) <;> rfl

variable {n : OutputId} {x : ForceAction} (hx : forceActionOf a (num16 [o, a, d1, d2] 2) = some x)

include hx

theorem commandForceOutput_read (ho : o = byteOf n.val) :
    commandForceOutput [o, a, d1, d2] s =
      if !(s.outputConfig n).enabled || s.outputNamed n then (s, answer .wrongState [])
      else ((forceByState n x s).1, answer (forceByState n x s).2 []) := by
  have hn : finOf 8 (byteAt [o, a, d1, d2] 0) = some n := by
    rw [ho]
    exact finOf_output n
  have ha : forceActionOf (byteAt [o, a, d1, d2] 1) (num16 [o, a, d1, d2] 2) = some x := hx
  unfold commandForceOutput
  rw [hn, ha]

theorem commandForceOutput_wrongState (ho : o = byteOf n.val) (hm : ¬ MayForce s n) :
    commandForceOutput [o, a, d1, d2] s = (s, answer .wrongState []) := by
  rw [commandForceOutput_read hx ho]
  exact if_pos (by rwa [mayForce_iff, Bool.not_eq_false] at hm)

theorem commandForceOutput_acts (ho : o = byteOf n.val) (hm : MayForce s n) :
    commandForceOutput [o, a, d1, d2] s = ((forceByState n x s).1, answer (forceByState n x s).2 []) := by
  rw [commandForceOutput_read hx ho]
  exact if_neg (by rw [mayForce_iff.mp hm]; decide)

end

/-! ### The row -/

section

variable {s : State} {q o a d1 d2 : Byte} {c : Instr} (hc : frameOfRow c = some (0x28, q, [o, a, d1, d2]))
  (h : Takes s 0x28 q [o, a, d1, d2])

include hc h

/-- A FORCE_OUTPUT changes the outputs at most, besides LNK, and nothing follows it. -/
theorem exec_forceOutput {out : Oct Output} {r : Result}
    (hx : commandForceOutput [o, a, d1, d2] (s.taking q) = ({ s.taking q with out := out }, answer r [])) :
    exec c s = .next { s with out := out, lnk := s.lnk.afterTaken 0x28 q [o, a, d1, d2] ⟨r, [], .none⟩ } := by
  have hsettled : Settled { s with out := out } := h.1.1
  have hcommand : instantCommand .forceOutput [o, a, d1, d2] (s.taking q)
      = some ({ s.taking q with out := out }, answer r []) := congrArg some hx
  rw [exec_frame hc, receiveFrame_instant (k := .forceOutput) h (by decide) (by decide) rfl hcommand rfl]
  exact congrArg _ (concluded_of_settled hsettled (afterTaken_hold ..))

theorem exec_forceOutput_refused {r : Result}
    (hx : commandForceOutput [o, a, d1, d2] (s.taking q) = (s.taking q, answer r [])) :
    exec c s = .next { s with lnk := s.lnk.afterTaken 0x28 q [o, a, d1, d2] ⟨r, [], .none⟩ } :=
  exec_forceOutput hc h hx

/-- The row by what the action does at an output that FORCE_OUTPUT may act on. -/
theorem exec_forceOutput_acts {n : OutputId} {x : ForceAction} {out : Oct Output} {r : Result}
    (ha : forceActionOf a (num16 [o, a, d1, d2] 2) = some x) (ho : o = byteOf n.val) (hm : MayForce s n)
    (hx : forceByState n x (s.taking q) = ({ s.taking q with out := out }, r)) :
    exec c s = .next { s with out := out, lnk := s.lnk.afterTaken 0x28 q [o, a, d1, d2] ⟨r, [], .none⟩ } := by
  refine exec_forceOutput hc h ?_
  rw [commandForceOutput_acts (s := s.taking q) ha ho hm, hx]

end

/-! ### The actions by the output's state -/

section

variable {s : State} {n : OutputId}

theorem forceByState_on_idle (h : (s.out.get n).state = .idle) : forceByState n .on s = ({ s with
    out := s.out.set n
      { s.out.get n with state := .forced, level := activeLevel (s.lcu.active.outputs.get n).polarity } }, .ok) := by
  unfold forceByState
  rw [h]
  rfl

theorem forceByState_on_forced (h : (s.out.get n).state = .forced) : forceByState n .on s = (s, .ok) := by
  unfold forceByState
  rw [h]

theorem forceByState_on_busy (h : (s.out.get n).state = .active ∨ (s.out.get n).state = .recovery) :
    forceByState n .on s = (s, .busy) := by
  unfold forceByState
  rcases h with h | h <;> rw [h]

theorem forceByState_off_forced (h : (s.out.get n).state = .forced) : forceByState n .off s =
    ({ s with out := s.out.set n ((s.out.get n).rested (s.lcu.active.outputs.get n) s.now) }, .ok) := by
  unfold forceByState
  rw [h, restOutput_eq]

theorem forceByState_off_resting (h : (s.out.get n).state = .idle ∨ (s.out.get n).state = .recovery) :
    forceByState n .off s = (s, .ok) := by
  unfold forceByState
  rcases h with h | h <;> rw [h]

theorem forceByState_off_busy (h : (s.out.get n).state = .active) : forceByState n .off s = (s, .busy) := by
  unfold forceByState
  rw [h]

theorem forceByState_pulse (d : Nat) (h : (s.out.get n).state = .idle ∨ (s.out.get n).state = .forced) :
    forceByState n (.pulse d) s = (beginForcedPulse n d s, .ok) := by
  unfold forceByState
  rcases h with h | h <;> rw [h]

theorem forceByState_pulse_busy (d : Nat) (h : (s.out.get n).state = .active ∨ (s.out.get n).state = .recovery) :
    forceByState n (.pulse d) s = (s, .busy) := by
  unfold forceByState
  rcases h with h | h <;> rw [h]

end

/-- Settles O30: the payload gives the output and the action, the refusals come before the output's state is read, and each action
has one outcome for each state. -/
theorem forceOutputActsByState : Obligations.ForceOutputActsByState := by
  refine ⟨⟨fun s q n d1 d2 hm h => ⟨fun hs => ?_, fun hs => ?_, fun hs => ?_⟩,
    fun s q n d1 d2 hm h => ⟨fun hs => ?_, fun hs => ?_, fun hs => ?_⟩,
    fun s q n d1 d2 hm hd h => ?_⟩, fun s c q o a d1 d2 hc h => ⟨fun hbad => ?_, fun n ho ha hd hm => ?_⟩⟩
  · exact exec_forceOutput_acts rfl h rfl rfl hm (forceByState_on_idle (s := s.taking q) hs)
  · exact exec_forceOutput_acts rfl h rfl rfl hm (forceByState_on_forced (s := s.taking q) hs)
  · exact exec_forceOutput_acts rfl h rfl rfl hm (forceByState_on_busy (s := s.taking q) hs)
  · exact exec_forceOutput_acts rfl h rfl rfl hm (forceByState_off_forced (s := s.taking q) hs)
  · exact exec_forceOutput_acts rfl h rfl rfl hm (forceByState_off_resting (s := s.taking q) hs)
  · exact exec_forceOutput_acts rfl h rfl rfl hm (forceByState_off_busy (s := s.taking q) hs)
  · have hpulse := forceActionOf_pulse (mt (forceDuration_eq_zero (o := byteOf n.val) (a := 2)).mp hd)
    exact ⟨fun hs => exec_forceOutput_acts rfl h hpulse rfl hm (forceByState_pulse (s := s.taking q) _ hs),
      fun hs => exec_forceOutput_acts rfl h hpulse rfl hm (forceByState_pulse_busy (s := s.taking q) _ hs)⟩
  · exact exec_forceOutput_refused hc h (commandForceOutput_badArgument hbad)
  · have hread : forceActionOf a (num16 [o, a, d1, d2] 2) ≠ none := by
      rw [ne_eq, forceActionOf_eq_none, forceDuration_eq_zero, not_or]
      exact ⟨not_lt.mpr ha, hd⟩
    obtain ⟨x, hx⟩ := Option.ne_none_iff_exists'.mp hread
    exact exec_forceOutput_refused hc h (commandForceOutput_wrongState (s := s.taking q) hx ho hm)

end Sys2Proof.Machine

end

/-! ## Proofs: O49 and O48, the ends and the starts of pulses (R79 to R87) -/

section

namespace Sys2Proof.Machine

open Sys2Proof

/-! ### The end of a pulse -/

section

variable {s : State} {n : OutputId} {p : Pulse} (hp : (s.out.get n).pulse = some p)

include hp

/-- A pulse ended by its end condition: its output rests, and the end notice names its pairs (R84, R85). -/
theorem endPulse_rests : endPulse n false s = endNotice p.attached false (restOutput n s) := by
  unfold endPulse
  rw [hp]
  rfl

theorem endPulse_whole :
    endPulse n false s = endNotice p.attached false
      { s with out := s.out.set n ((s.out.get n).rested (s.lcu.active.outputs.get n) s.now) } := by
  rw [endPulse_rests hp, restOutput_eq]

/-- A pulse cut short: besides, TRUNCATED is counted (R87, R90). -/
theorem endPulse_truncated :
    endPulse n true s = endNotice p.attached true
      { s with out := s.out.set n { (s.out.get n).rested (s.lcu.active.outputs.get n) s.now with
          truncated := (s.out.get n).truncated + 1 } } := by
  unfold endPulse
  rw [hp]
  dsimp only
  rw [if_pos rfl, restOutput_eq, mapOutput]
  dsimp only
  rw [Oct.get_set_self, Oct.set_set]
  rfl

theorem endIfMet_met (h : p.endMet s.mot.position s.now = true) : endIfMet n s = endPulse n false s := by
  unfold endIfMet
  rw [hp]
  exact if_pos h

theorem endIfMet_unmet (h : p.endMet s.mot.position s.now = false) : endIfMet n s = s := by
  unfold endIfMet
  rw [hp]
  exact if_neg (by rw [h]; decide)

theorem tickEnd_met (hpos : p.endPosition = some s.mot.position) (htime : p.endTime.all (fun e => decide (e ≤ s.now)) = true) :
    tickEnd n s = endPulse n false s := by
  have hmet : p.endMet s.mot.position s.now = true := by simp [Pulse.endMet, hpos, htime]
  unfold tickEnd
  rw [hp]
  exact if_pos ⟨hpos, hmet⟩

theorem tickEnd_unmet
    (h : p.endPosition ≠ some s.mot.position ∨ p.endTime.all (fun e => decide (e ≤ s.now)) = false) : tickEnd n s = s := by
  unfold tickEnd
  rw [hp]
  refine if_neg fun ⟨hpos, hmet⟩ => h.elim (fun h => h hpos) fun htime => ?_
  rw [Pulse.endMet, htime, Bool.and_false] at hmet
  exact Bool.false_ne_true hmet

end

theorem tickEnd_none {s : State} {n : OutputId} (h : (s.out.get n).pulse = none) : tickEnd n s = s := by
  unfold tickEnd
  rw [h]

/-! ### The rows of the timers -/

/-- An event at OUT that ends in an end notice is followed by no taking of a frame where none could be taken before it. -/
theorem settle_endNotice {s : State} (h : NoFrameTaken s) (pairs : List (Tag × StationId)) (b : Bool) :
    settle (endNotice pairs b s) = endEvent (endNotice pairs b s) := by
  have hk := endNotice_keeps pairs b s
  refine settle_noFrame ?_
  unfold NoFrameTaken
  rw [hk.cmd, hk.lnk]
  exact h

section

variable {s : State} {n : OutputId}

theorem endTimeExpiry_running {p : Pulse} {e : Nat} (hp : (s.out.get n).pulse = some p) (he : p.endTime = some e) :
    endTimeExpiry n s = endIfMet n (reachTime e s) := by
  have htime : (s.out.get n).pulse.bind (·.endTime) = some e := by rw [hp]; exact he
  unfold endTimeExpiry
  rw [htime]

theorem endTimeExpiry_none (h : (s.out.get n).pulse = none) : endTimeExpiry n s = s := by
  unfold endTimeExpiry
  rw [h]
  rfl

theorem maxOnExpiry_running {e : Nat} (h : (s.out.get n).maxOn = some e) :
    maxOnExpiry n s = endPulse n true (reachTime e s) := by
  unfold maxOnExpiry
  rw [h]

theorem maxOnExpiry_none (h : (s.out.get n).maxOn = none) : maxOnExpiry n s = s := by
  unfold maxOnExpiry
  rw [h]

theorem recoveryExpiry_running {e : Nat} (h : (s.out.get n).recovery = some e) :
    recoveryExpiry n s = { s with
      now := max s.now e
      out := s.out.set n { s.out.get n with
        state := .idle, level := !activeLevel (s.lcu.active.outputs.get n).polarity, recovery := none } } := by
  unfold recoveryExpiry
  rw [h]
  rfl

theorem recoveryExpiry_none (h : (s.out.get n).recovery = none) : recoveryExpiry n s = s := by
  unfold recoveryExpiry
  rw [h]

/-- When the time base has reached the end time, the end position decides (R84). -/
theorem endMet_at_endTime {p : Pulse} {e : Nat} (he : p.endTime = some e) (position now : Nat) :
    p.endMet position (max now e) = p.endPosition.all fun y => decide (y ≤ position) := by
  simp [Pulse.endMet, he]

end

/-- Settles O49: each timer's row carries the time base to its expiry and does what the operation at OUT does there. -/
theorem outputTimersEndPulses : Obligations.OutputTimersEndPulses := by
  refine ⟨fun s n hq => ⟨fun p hp e he => ⟨fun hpos => ?_, fun hpos => ?_⟩, fun p hp e he => ?_, fun e he => ?_,
    fun hp => ?_, fun hm => ?_, fun hr => ?_⟩, fun s n => ⟨fun p hp => ⟨fun hpos htime => ?_, fun h => ?_⟩, fun hp => ?_⟩⟩
  · have hquiet : Quiet (reachTime e s) := hq
    show Host.Outcome.next (settle (endTimeExpiry n s)) = _
    rw [endTimeExpiry_running hp he, endIfMet_unmet (s := reachTime e s) hp ((endMet_at_endTime he ..).trans hpos),
      settle_quiet hquiet]
    rfl
  · have hfree : NoFrameTaken (reachTime e s) := hq.2
    show Host.Outcome.next (settle (endTimeExpiry n s)) = _
    rw [endTimeExpiry_running hp he, endIfMet_met (s := reachTime e s) hp ((endMet_at_endTime he ..).trans hpos),
      endPulse_whole (s := reachTime e s) hp, settle_endNotice (by exact hfree)]
    rfl
  · have hfree : NoFrameTaken (reachTime e s) := hq.2
    show Host.Outcome.next (settle (maxOnExpiry n s)) = _
    rw [maxOnExpiry_running he, endPulse_truncated (s := reachTime e s) hp, settle_endNotice (by exact hfree)]
    rfl
  · show Host.Outcome.next (settle (recoveryExpiry n s)) = _
    rw [recoveryExpiry_running he, settle_quiet (by exact hq)]
  · show Host.Outcome.next (settle (endTimeExpiry n s)) = _
    rw [endTimeExpiry_none hp, settle_quiet hq]
  · show Host.Outcome.next (settle (maxOnExpiry n s)) = _
    rw [maxOnExpiry_none hm, settle_quiet hq]
  · show Host.Outcome.next (settle (recoveryExpiry n s)) = _
    rw [recoveryExpiry_none hr, settle_quiet hq]
  · rw [tickEnd_met hp hpos htime, endPulse_whole hp]
  · exact tickEnd_unmet hp h
  · exact tickEnd_none hp

/-! ### The start of a pulse -/

/-- Whether the pulse of a request that starts now has an end still to come (R81, step 5). -/
def Request.lasts (r : Request) (position : Nat) : Bool :=
  match r.duration with
  | .ticks e => decide (position < e)
  | .time d => decide (0 < d)

theorem newPulse_endMet (r : Request) (position now : Nat) : (r.newPulse now).endMet position now = !r.lasts position := by
  unfold Request.newPulse Request.lasts
  cases r.duration with
  | ticks e => simp [Pulse.endMet, ← decide_not]
  | time d => simp [Pulse.endMet, ← decide_not]

theorem newPulse_attached (r : Request) (now : Nat) : (r.newPulse now).attached = [(r.tag, r.station)] := by
  unfold Request.newPulse
  cases r.duration <;> rfl

/-- The state with OUT replaced. -/
def State.withOut (s : State) (out : Oct Output) : State := { s with out := out }

/-- A start notice neither reads nor changes the outputs. -/
theorem startNotice_withOut (t : Tag) (st : StationId) (m l : Bool) (s : State) (out : Oct Output) :
    startNotice t st m l (s.withOut out) = (startNotice t st m l s).withOut out := by
  have hitem : (s.withOut out).item? t = s.item? t := rfl
  have hlcu : (s.withOut out).lcu = s.lcu := rfl
  unfold startNotice
  rw [hitem, hlcu]
  cases s.item? t with
  | none => rfl
  | some i =>
    dsimp only
    split
    · split
      · rw [passEvent_eq, passEvent_eq]
        rfl
      · rfl
    · rfl

/-- An output rests the same before a start notice as after it. -/
theorem restOutput_startNotice (n : OutputId) (t : Tag) (st : StationId) (m l : Bool) (s : State) :
    restOutput n (startNotice t st m l s) = startNotice t st m l (restOutput n s) := by
  have hkeeps := startNotice_keeps t st m l s
  have hrest (u : State) :
      restOutput n u = u.withOut (u.out.set n ((u.out.get n).rested (u.lcu.active.outputs.get n) u.now)) := restOutput_eq n u
  rw [hrest, hrest, startNotice_withOut, startNotice_out, hkeeps.active, hkeeps.now]

/-- The part with a started entry out of its pending list (R79). -/
def State.delisted (n : OutputId) (r : Request) (s : State) : State :=
  { s with out := s.out.set n { s.out.get n with waiting := (s.out.get n).waiting.erase r } }

theorem mapOutput_delisted (n : OutputId) (r : Request) (f : Output → Output) (s : State) :
    mapOutput n f (s.delisted n r) =
      { s with out := s.out.set n (f { s.out.get n with waiting := (s.out.get n).waiting.erase r }) } := by
  unfold mapOutput State.delisted
  dsimp only
  rw [Oct.get_set_self, Oct.set_set]

/-- The part as the start notice of a request's new pulse finds it (R81, steps 1 to 4). -/
def State.pulseBegun (n : OutputId) (r : Request) (s : State) : State := beginPulse n (r.newPulse s.now) (s.delisted n r)

section

variable {s : State} {n : OutputId} (late : Bool) (r : Request)

theorem delisted_state : ((s.delisted n r).out.get n).state = (s.out.get n).state := by
  unfold State.delisted
  rw [Oct.get_set_self]

theorem takeStart_disabled (hx : (s.lcu.active.outputs.get n).enabled = false) :
    takeStart n late r s = missNotice r.tag r.station .disabled (s.delisted n r) := by
  have hoff : ¬ ((s.delisted n r).outputConfig n).enabled = true := Bool.eq_false_iff.mp hx
  exact if_neg hoff

variable (hx : (s.lcu.active.outputs.get n).enabled = true)

include hx

/-- The arbitration of an enabled output, by its state and its overlap policy (R80). -/
theorem takeStart_enabled : takeStart n late r s =
    match (s.out.get n).state, (s.lcu.active.outputs.get n).overlap with
    | .idle, _ => endIfMet n (startNotice r.tag r.station false late (s.pulseBegun n r))
    | .active, .merge =>
      startNotice r.tag r.station true late (mapOutput n (fun o => { o with
        pulse := o.pulse.map (·.extend r s.now)
        merged := o.merged + 1 }) (s.delisted n r))
    | _, _ => refuseBusy n r (s.delisted n r) := by
  have hon : ((s.delisted n r).outputConfig n).enabled = true := hx
  rw [← delisted_state (s := s) r]
  exact if_pos hon

theorem takeStart_idle (hs : (s.out.get n).state = .idle) :
    takeStart n late r s = endIfMet n (startNotice r.tag r.station false late (s.pulseBegun n r)) := by
  rw [takeStart_enabled late r hx, hs]

theorem takeStart_merges (hs : (s.out.get n).state = .active) (ho : (s.lcu.active.outputs.get n).overlap = .merge) :
    takeStart n late r s =
      startNotice r.tag r.station true late (mapOutput n (fun o => { o with
        pulse := o.pulse.map (·.extend r s.now)
        merged := o.merged + 1 }) (s.delisted n r)) := by
  rw [takeStart_enabled late r hx, hs, ho]

theorem takeStart_busy
    (h : ((s.out.get n).state = .active ∧ (s.lcu.active.outputs.get n).overlap = .reject)
      ∨ (s.out.get n).state = .recovery ∨ (s.out.get n).state = .forced) :
    takeStart n late r s = refuseBusy n r (s.delisted n r) := by
  rw [takeStart_enabled late r hx]
  rcases h with ⟨hs, ho⟩ | hs | hs
  · rw [hs, ho]
  · rw [hs]
  · rw [hs]

end

/-! ### A start at an IDLE output -/

section

variable {s : State} {n : OutputId} {r : Request} (late : Bool)

theorem pulseBegun_eq :
    s.pulseBegun n r = { s with out := s.out.set n { s.out.get n with
      state := .active
      level := activeLevel (s.lcu.active.outputs.get n).polarity
      waiting := (s.out.get n).waiting.erase r
      pulse := some (r.newPulse s.now)
      maxOn :=
        if (s.lcu.active.outputs.get n).maxOn = 0 then none else some (s.now + 1000 * (s.lcu.active.outputs.get n).maxOn)
      recovery := none
      started := (s.out.get n).started + 1 } } := by
  unfold State.pulseBegun beginPulse
  exact mapOutput_delisted n r _ s

/-- A pulse already due leaves its output at rest with STARTED counted (R81, R85). -/
theorem restOutput_pulseBegun :
    restOutput n (s.pulseBegun n r) = { s with
      out := s.out.set n { Output.rested { s.out.get n with waiting := (s.out.get n).waiting.erase r }
        (s.lcu.active.outputs.get n) s.now with started := (s.out.get n).started + 1 } } := by
  rw [pulseBegun_eq, restOutput_eq]
  dsimp only
  rw [Oct.get_set_self, Oct.set_set]
  rfl

/-- The start notice leaves the pulse, the track position and the time base, which decide whether the pulse lasts. -/
theorem startNotice_pulseBegun :
    let u := startNotice r.tag r.station false late (s.pulseBegun n r)
    (u.out.get n).pulse = some (r.newPulse s.now) ∧ (r.newPulse s.now).endMet u.mot.position u.now = !r.lasts s.mot.position := by
  have hkeeps := startNotice_keeps r.tag r.station false late (s.pulseBegun n r)
  dsimp only
  rw [startNotice_out, hkeeps.mot, hkeeps.now, pulseBegun_eq, newPulse_endMet, Oct.get_set_self]
  exact ⟨rfl, rfl⟩

theorem endIfMet_lasting (hl : r.lasts s.mot.position = true) :
    endIfMet n (startNotice r.tag r.station false late (s.pulseBegun n r)) =
      startNotice r.tag r.station false late (s.pulseBegun n r) := by
  obtain ⟨hpulse, hmet⟩ := startNotice_pulseBegun (s := s) (n := n) (r := r) late
  exact endIfMet_unmet hpulse (by rw [hmet, hl]; rfl)

theorem endIfMet_alreadyDue (hl : r.lasts s.mot.position = false) :
    endIfMet n (startNotice r.tag r.station false late (s.pulseBegun n r)) =
      endNotice [(r.tag, r.station)] false (startNotice r.tag r.station false late (restOutput n (s.pulseBegun n r))) := by
  obtain ⟨hpulse, hmet⟩ := startNotice_pulseBegun (s := s) (n := n) (r := r) late
  rw [endIfMet_met hpulse (by rw [hmet, hl]; rfl), endPulse_rests hpulse, newPulse_attached, restOutput_startNotice]

end

/-- Settles O48: the started entry leaves the list, and the arbitration falls by the output's state and policy. -/
theorem startEventsAreArbitrated : Obligations.StartEventsAreArbitrated := by
  intro s n late r
  refine ⟨fun hx => takeStart_disabled late r hx, fun hx hs hl => ?_, fun hx hs hl => ?_, fun p hp hx hs ho => ?_,
    fun hx h => ?_⟩
  · rw [takeStart_idle late r hx hs, endIfMet_lasting late hl, pulseBegun_eq]
    rfl
  · rw [takeStart_idle late r hx hs, endIfMet_alreadyDue late hl, restOutput_pulseBegun]
  · have hpulse : (s.out.get n).pulse = some p := hp
    rw [takeStart_merges late r hx hs ho, mapOutput_delisted]
    dsimp only
    rw [hpulse]
    rfl
  · rw [takeStart_busy late r hx h, refuseBusy, mapOutput_delisted]

end Sys2Proof.Machine

end

/-! ## Proofs: O55 and O60, the track position and the reverse debt (R98, R108)

No event but a count moves the track position, and none breaks the bound on the reverse debt. `KeepsPlace` says both of one event,
`MakesCount` says what a count does instead, and `exec_moves` puts every row under one of these or under a reset. -/

section

namespace Sys2Proof.Machine

open Sys2Proof

/-! ### The relations -/

/-- The line states in which R108 bounds the debt by the limit itself. -/
abbrev State.tracks (s : State) : Prop := s.lcu.line = .run ∨ s.lcu.line = .draining

/-- The track position stands, and the bound on the debt is kept. -/
structure KeepsPlace (s t : State) : Prop where
  position : t.mot.position = s.mot.position
  debt : DebtInv s → DebtInv t

theorem KeepsPlace.refl (s : State) : KeepsPlace s s := ⟨rfl, fun h => h⟩

theorem KeepsPlace.trans {a b c : State} (h : KeepsPlace a b) (k : KeepsPlace b c) : KeepsPlace a c :=
  ⟨k.position.trans h.position, fun hd => k.debt (h.debt hd)⟩

/-- A debt that is no greater, under the same limit, in a line state that asks for no more. -/
theorem debtInv_of_le {s t : State} (hd : t.mot.debt ≤ s.mot.debt) (hactive : t.lcu.active = s.lcu.active)
    (hline : t.tracks → s.tracks) (h : DebtInv s) : DebtInv t := by
  obtain ⟨hcap, hlimit⟩ := h
  unfold DebtInv
  rw [hactive]
  exact ⟨hd.trans hcap, fun ht => hd.trans (hlimit (hline ht))⟩

theorem debtInv_of_zero {s : State} (h : s.mot.debt = 0) : DebtInv s := by
  unfold DebtInv
  rw [h]
  exact ⟨Nat.zero_le _, fun _ => Nat.zero_le _⟩

theorem KeepsPlace.of_debt_zero {s t : State} (hp : t.mot.position = s.mot.position) (hd : t.mot.debt = 0) : KeepsPlace s t :=
  ⟨hp, fun _ => debtInv_of_zero hd⟩

/-- An event that changes neither the position nor the debt, nor what bounds it. -/
theorem KeepsPlace.of_same {s t : State} (hp : t.mot.position = s.mot.position) (hd : t.mot.debt = s.mot.debt)
    (hactive : t.lcu.active = s.lcu.active) (hline : t.lcu.line = s.lcu.line) : KeepsPlace s t :=
  ⟨hp, debtInv_of_le hd.le hactive (by unfold State.tracks; rw [hline]; exact fun h => h)⟩

theorem KeepsPlace.of_blocks {s t : State} (h : SameBlocks s t) : KeepsPlace s t :=
  .of_same (by rw [h.mot]) (by rw [h.mot]) (by rw [h.lcu]) (by rw [h.lcu])

theorem Evolves.tracks {Y : Set Tag} {s t : State} (h : Evolves Y s t) (ht : t.tracks) : s.tracks := by
  unfold State.tracks at ht
  rw [h.line] at ht
  split at ht
  · simp at ht
  · exact ht

/-- The table may evolve, and end a drain. -/
theorem KeepsPlace.of_evolves {Y : Set Tag} {s t : State} (h : Evolves Y s t) (hmot : t.mot = s.mot)
    (hactive : t.lcu.active = s.lcu.active) : KeepsPlace s t :=
  ⟨by rw [hmot], debtInv_of_le (by rw [hmot]) hactive h.tracks⟩

theorem KeepsPlace.of_tracking {Y : Set Tag} {s t : State} (h : Evolves Y s t) (k : KeepsBeyondTracking s t) : KeepsPlace s t :=
  .of_evolves h k.mot k.active

/-- A count: the position stands or is the next, any value following the largest, and the bound on the debt is kept. -/
structure MakesCount (s t : State) : Prop where
  position : t.mot.position = s.mot.position ∨ t.mot.position = s.mot.position + 1 ∨ 2 ^ 48 ≤ s.mot.position + 1
  debt : DebtInv s → DebtInv t

theorem KeepsPlace.makesCount {s t : State} (h : KeepsPlace s t) : MakesCount s t := ⟨.inl h.position, h.debt⟩

theorem KeepsPlace.then_count {a b c : State} (h : KeepsPlace a b) (k : MakesCount b c) : MakesCount a c :=
  ⟨h.position ▸ k.position, fun hd => k.debt (h.debt hd)⟩

theorem MakesCount.then_place {a b c : State} (h : MakesCount a b) (k : KeepsPlace b c) : MakesCount a c :=
  ⟨by rw [k.position]; exact h.position, fun hd => k.debt (h.debt hd)⟩

/-! ### DET leaves MOT alone -/

/-- What DET's operations leave alone: everything but the lanes, RPT, and the creation requests, which only grow. -/
structure OnlyDetects (s t : State) : Prop where
  eq : t = { s with det := t.det, requests := t.requests, rpt := t.rpt }
  requests : s.requests <+: t.requests

theorem OnlyDetects.refl (s : State) : OnlyDetects s s := ⟨rfl, [], List.append_nil _⟩

theorem OnlyDetects.trans {a b c : State} (h : OnlyDetects a b) (k : OnlyDetects b c) : OnlyDetects a c where
  eq := by rw [k.eq, h.eq]
  requests := h.requests.trans k.requests

theorem OnlyDetects.foldl {α : Type} (f : State → α → State) (h : ∀ s a, OnlyDetects s (f s a)) (l : List α) :
    ∀ s, OnlyDetects s (l.foldl f s) := by
  induction l with
  | nil => exact .refl
  | cons a l ih => exact fun s => (h s a).trans (ih (f s a))

theorem OnlyDetects.mot {s t : State} (h : OnlyDetects s t) : t.mot = s.mot := by rw [h.eq]

theorem OnlyDetects.lcu {s t : State} (h : OnlyDetects s t) : t.lcu = s.lcu := by rw [h.eq]

theorem OnlyDetects.keepsPlace {s t : State} (h : OnlyDetects s t) : KeepsPlace s t :=
  .of_same (by rw [h.mot]) (by rw [h.mot]) (by rw [h.lcu]) (by rw [h.lcu])

theorem mapLane_detects (n : LaneId) (f : Lane → Lane) (s : State) : OnlyDetects s (mapLane n f s) :=
  ⟨rfl, [], List.append_nil _⟩

theorem sendRequest_detects (r : CreationRequest) (s : State) : OnlyDetects s (sendRequest r s) :=
  ⟨rfl, [r], rfl⟩

theorem passStatus_detects (s : State) : OnlyDetects s (passStatus s) := ⟨rfl, [], List.append_nil _⟩

theorem overlongTest_detects (s : State) (n : LaneId) : OnlyDetects s (overlongTest s n) := by
  have hblock (f : Lane → Lane) {u : State} (h : OnlyDetects s u) : OnlyDetects s (passStatus (mapLane n f u)) :=
    (h.trans (mapLane_detects n f u)).trans (passStatus_detects _)
  unfold overlongTest
  dsimp only
  split
  · split
    · split
      · exact hblock _ (.refl s)
      · exact hblock _ (sendRequest_detects _ s)
      · exact hblock _ (sendRequest_detects _ s)
    · exact .refl s
  · exact .refl s

theorem tickDetectors_detects (s : State) : OnlyDetects s (tickDetectors s) := .foldl _ overlongTest_detects allLanes s

theorem acceptLeading_detects (n : LaneId) (p : Nat) (s : State) : OnlyDetects s (acceptLeading n p s) := by
  unfold acceptLeading
  dsimp only
  split
  · exact mapLane_detects n _ s
  · split
    · exact (mapLane_detects n _ s).trans (sendRequest_detects _ _)
    · exact mapLane_detects n _ s

theorem acceptTrailing_detects (n : LaneId) (p q : Nat) (s : State) : OnlyDetects s (acceptTrailing n p q s) := by
  have hidle := mapLane_detects n (fun l => { l with state := .idle, leading := none }) s
  unfold acceptTrailing
  dsimp only
  split
  · exact hidle
  all_goals
    split
    · exact hidle.trans (mapLane_detects n _ _)
    · exact hidle.trans (sendRequest_detects _ _)

theorem acceptEdge_detects (n : LaneId) (edge : Nat) (s : State) : OnlyDetects s (acceptEdge n edge s) := by
  unfold acceptEdge
  refine (mapLane_detects n (fun l => { l with candidate := none }) s).trans ?_
  dsimp only
  split
  · exact acceptLeading_detects n _ _
  · exact acceptTrailing_detects n _ _ _
  · exact mapLane_detects n _ _
  · exact (mapLane_detects n _ _).trans (passStatus_detects _)

theorem judgeSample_detects (n : LaneId) (level : Bool) (s : State) : OnlyDetects s (judgeSample n level s) := by
  unfold judgeSample startCandidate
  dsimp only
  split
  · exact .refl s
  · split
    · exact acceptEdge_detects n _ s
    · exact mapLane_detects n _ s
  · exact .refl s
  · exact mapLane_detects n _ s

theorem sampleDetector_keepsPlace (n : LaneId) (level : Bool) (s : State) : KeepsPlace s (sampleDetector n level s) := by
  have hpins : KeepsPlace s { s with pins := { s.pins with det := s.pins.det.set n level } } := .of_same rfl rfl rfl rfl
  unfold sampleDetector
  dsimp only
  split
  · exact hpins.trans (judgeSample_detects n level _).keepsPlace
  · exact hpins

theorem reachTime_keepsPlace (t : Nat) (s : State) : KeepsPlace s (reachTime t s) := .of_same rfl rfl rfl rfl

theorem debounceExpiry_keepsPlace (n : LaneId) (s : State) : KeepsPlace s (debounceExpiry n s) := by
  unfold debounceExpiry
  split
  · exact .refl s
  · exact (reachTime_keepsPlace _ s).trans (acceptEdge_detects n _ _).keepsPlace

/-! ### TRK and OUT -/

theorem takePair_keepsPlace (t : Tag) (b : Byte) (s : State) : KeepsPlace s (takePair t b s).1 := by
  unfold takePair
  split
  · exact .refl s
  · split
    · exact .refl s
    · split
      · exact .refl s
      · dsimp only
        split <;> exact .of_same rfl rfl rfl rfl

theorem createItem_keepsPlace (r : CreationRequest) (s : State) : KeepsPlace s (createItem r s) := by
  have hplace := placeItem_keeps (newItem r s) s
  have hcreate := createItem_keeps r s
  have hplaced : KeepsPlace s (placeItem (newItem r s) s) :=
    .of_same (by rw [hplace.mot]) (by rw [hplace.mot]) hplace.active (by rw [placeItem_lcu])
  exact hplaced.trans (.of_evolves (createItem_evolves r s) (hcreate.mot.trans hplace.mot.symm)
    (hcreate.active.trans hplace.active.symm))

theorem KeepsPlace.of_reports {s t : State} (h : KeepsBeyondReports s t) : KeepsPlace s t :=
  .of_same (by rw [h.mot]) (by rw [h.mot]) h.active h.line

theorem takeRequest_keepsPlace (n : LaneId) (s : State) : KeepsPlace s (takeRequest n s) := by
  unfold takeRequest takeCreation
  split
  · exact .refl s
  · have htaken (r : CreationRequest) : KeepsPlace s { s with requests := s.requests.erase r } := .of_same rfl rfl rfl rfl
    have hcount (r : CreationRequest) (f : LaneCounters → LaneCounters) (u : State) : KeepsPlace u (countLane r.lane f u) :=
      .of_same rfl rfl rfl rfl
    split
    · exact (htaken _).trans (hcount _ _ _)
    · split
      · exact ((htaken _).trans (hcount _ _ _)).trans (.of_reports (passFault_keeps _ _))
      · exact (htaken _).trans (createItem_keepsPlace _ _)

theorem endTimeExpiry_keepsPlace (n : OutputId) (s : State) : KeepsPlace s (endTimeExpiry n s) := by
  unfold endTimeExpiry
  split
  · exact .refl s
  · exact (reachTime_keepsPlace _ s).trans (.of_tracking (endIfMet_evolves n _) (endIfMet_keeps n _))

theorem maxOnExpiry_keepsPlace (n : OutputId) (s : State) : KeepsPlace s (maxOnExpiry n s) := by
  unfold maxOnExpiry
  split
  · exact .refl s
  · exact (reachTime_keepsPlace _ s).trans (.of_tracking (endPulse_evolves n true _) (endPulse_keeps n true _))

theorem recoveryExpiry_keepsPlace (n : OutputId) (s : State) : KeepsPlace s (recoveryExpiry n s) := by
  unfold recoveryExpiry
  split
  · exact .refl s
  · exact .of_same rfl rfl rfl rfl

/-! ### MOT -/

theorem standstillExpiry_keepsPlace (s : State) : KeepsPlace s (standstillExpiry s) := by
  unfold standstillExpiry
  split
  · exact .refl s
  · dsimp only
    split <;> exact .of_same rfl rfl rfl rfl

/-- A forward tick is MOT's part, then DET's, then TRK's and OUT's (R99). -/
theorem forwardTick_parts (o : TickOrder) (s : State) :
    OnlyDetects (markMoving (advancePosition s)) (tickDetectors (markMoving (advancePosition s)))
      ∧ KeepsBeyondTracking (tickDetectors (markMoving (advancePosition s))) (forwardTick o s) := by
  have houtputs (ns : List OutputId) (u : State) : KeepsBeyondTracking u (tickOutputs o ns u) :=
    .foldl _ (fun u n => tickOutput_keeps _ n u) ns u
  exact ⟨tickDetectors_detects _, ((houtputs _ _).trans (tickTracking_keeps _)).trans (houtputs _ _)⟩

/-- DET, TRK and OUT leave MOT as the tick finds it there. -/
theorem forwardTick_mot (o : TickOrder) (s : State) :
    (forwardTick o s).mot = { (advancePosition s).mot with
      moving := true
      standstill := some ((advancePosition s).now + 1000 * (advancePosition s).lcu.active.motion.standstill) } := by
  obtain ⟨hdet, hrest⟩ := forwardTick_parts o s
  rw [hrest.mot, hdet.mot, markMoving_eq]
  rfl

theorem advancePosition_position (s : State) :
    (advancePosition s).mot.position = s.mot.position + 1 ∨ 2 ^ 48 ≤ s.mot.position + 1 := by
  unfold advancePosition
  split
  · exact .inl rfl
  next h => exact .inr (not_lt.mp h)

theorem advancePosition_debt (s : State) : (advancePosition s).mot.debt = s.mot.debt := by
  unfold advancePosition
  split <;> rfl

theorem forwardTick_active (o : TickOrder) (s : State) : (forwardTick o s).lcu.active = s.lcu.active :=
  (forwardTick_form o s).active

theorem forwardTick_count (o : TickOrder) (s : State) : MakesCount s (forwardTick o s) where
  position := by
    rw [forwardTick_mot]
    exact .inr (advancePosition_position s)
  debt := by
    refine debtInv_of_le ?_ (forwardTick_active o s) (forwardTick_evolves o s).tracks
    rw [forwardTick_mot]
    exact (advancePosition_debt s).le

/-- A forward count in debt: it repays one, and REVERSE ends with the last (R108, R112). -/
theorem forwardCount_repays (o : TickOrder) {s : State} (h : 0 < s.mot.debt) :
    forwardCount o s = { s with mot := { s.mot with debt := s.mot.debt - 1 } }.withDue (decide (s.mot.debt = 1)) := by
  unfold forwardCount
  rw [if_neg h.ne', ← passStatus_if]
  by_cases h1 : s.mot.debt = 1 <;> simp [h1, mapMot]

theorem forwardCount_ticks (o : TickOrder) {s : State} (h : s.mot.debt = 0) : forwardCount o s = forwardTick o s := if_pos h

theorem forwardCount_count (o : TickOrder) (s : State) : MakesCount s (forwardCount o s) := by
  rcases Nat.eq_zero_or_pos s.mot.debt with h | h
  · rw [forwardCount_ticks o h]
    exact forwardTick_count o s
  · rw [forwardCount_repays o h]
    exact ⟨.inl rfl, debtInv_of_le (Nat.sub_le _ _) rfl fun ht => ht⟩

theorem setDebt_position (d : Nat) (s : State) : (setDebt d s).mot.position = s.mot.position := by
  rw [setDebt_eq]
  rfl

/-- A reverse count below the limit raises the debt (R108). -/
theorem reverseCount_below {s : State} (h : s.mot.debt < s.lcu.active.motion.reverseLimit) :
    reverseCount s = setDebt (s.mot.debt + 1) s := by
  unfold reverseCount
  dsimp only
  rw [if_neg h.not_gt, if_neg fun hd => h.ne hd.1]

theorem haltLine_not_tracks (cause : PurgeCause) (s : State) : ¬ (haltLine cause s).tracks := by
  unfold State.tracks
  rw [haltLine_line]
  unfold haltedLine
  split <;> simp

/-- A reverse count at the limit in RUN or DRAINING leaves the line states that ask for a debt within it (R109, R139). -/
theorem reverseCount_halts {s : State} (hd : s.mot.debt = s.lcu.active.motion.reverseLimit) (hl : s.tracks) :
    ¬ (reverseCount s).tracks := by
  rw [reverseCount_trackLost hd hl]
  exact haltLine_not_tracks _ _

theorem reverseCount_keepsPlace (s : State) : KeepsPlace s (reverseCount s) := by
  rcases lt_trichotomy s.mot.debt s.lcu.active.motion.reverseLimit with h | h | h
  · rw [reverseCount_below h, setDebt_eq]
    exact ⟨rfl, fun _ => ⟨Nat.le_succ_of_le h, fun _ => h⟩⟩
  · by_cases hl : s.tracks
    · obtain ⟨-, -, -, hlost⟩ := reverseCountAtTheLimit s
      obtain ⟨hmot, -, -, hkeeps, -⟩ := hlost h hl
      refine ⟨by rw [hmot], fun _ => ⟨?_, fun ht => absurd ht (reverseCount_halts h hl)⟩⟩
      rw [hmot, hkeeps.active]
    · rw [reverseCount_capped h hl, setDebt_eq]
      exact ⟨rfl, fun _ => ⟨le_rfl, fun ht => absurd ht hl⟩⟩
  · rw [reverseCount_beyond h]
    exact .refl s

theorem mapMot_keepsPlace {f : Mot → Mot} (s : State) (hp : (f s.mot).position = s.mot.position)
    (hd : (f s.mot).debt = s.mot.debt) : KeepsPlace s (mapMot f s) := .of_same hp hd rfl rfl

theorem illegalTransition_keepsPlace (s : State) : KeepsPlace s (illegalTransition s) := by
  unfold illegalTransition
  dsimp only
  split <;> exact .of_same rfl rfl rfl rfl

theorem encoderSample_count (x : Bool × Bool) (o : TickOrder) (s : State) : MakesCount s (encoderSample x o s) := by
  have hpins : KeepsPlace s { s with pins := { s.pins with encA := x.1, encB := x.2 } } := .of_same rfl rfl rfl rfl
  have hsample := hpins.trans (mapMot_keepsPlace (f := fun m => { m with reference := x }) _ rfl rfl)
  unfold encoderSample
  dsimp only
  split
  · split
    · exact hpins.makesCount
    · split
      · exact (hsample.trans (illegalTransition_keepsPlace _)).makesCount
      · split
        · exact hsample.then_count (forwardCount_count o _)
        · exact (hsample.trans (reverseCount_keepsPlace _)).makesCount
  · exact hpins.makesCount

theorem paceOverflow_count (o : TickOrder) (s : State) : MakesCount s (paceOverflow o s) := by
  unfold paceOverflow
  extract_lets rate
  split
  · split
    · refine KeepsPlace.then_count ?_ (forwardCount_count o _)
      exact .of_same rfl rfl rfl rfl
    next k u _ _ =>
      have hpace : KeepsPlace s u := mapMot_keepsPlace s rfl rfl
      exact (hpace.trans (reachTime_keepsPlace _ u)).then_count (forwardCount_count o _)
  · exact (KeepsPlace.refl s).makesCount

theorem makeAdvanceCount_count (o : TickOrder) (s : State) : MakesCount s (makeAdvanceCount o s) := by
  unfold makeAdvanceCount
  split
  · refine KeepsPlace.then_count ?_ (forwardCount_count o _)
    exact .of_same rfl rfl rfl rfl
  · exact (KeepsPlace.refl s).makesCount

/-! ### Commands -/

theorem clearCounters_keepsPlace (g : CounterGroup) (s : State) : KeepsPlace s (clearCounters g s) := by
  cases g <;> exact .of_same rfl rfl rfl rfl

theorem commandGetCounters_keepsPlace (p : List Byte) (s : State) : KeepsPlace s (commandGetCounters p s).1 := by
  unfold commandGetCounters
  split
  · dsimp only
    split
    · exact clearCounters_keepsPlace _ s
    · exact .refl s
  · exact .refl s

theorem clearEncoderError_keepsPlace (s : State) : KeepsPlace s (clearEncoderError s) := by
  unfold clearEncoderError
  split
  · exact .of_same rfl rfl rfl rfl
  · exact .refl s

theorem acknowledge_keepsPlace (n : BitVec 16) (w : Nat) (s : State) : KeepsPlace s (acknowledge n w s) := by
  have hstatus (b : Bool) (r : Rpt) : KeepsPlace s (if b then { s with rpt := r } else passStatus { s with rpt := r }) := by
    cases b <;> exact .of_same rfl rfl rfl rfl
  unfold acknowledge
  dsimp only
  split
  · exact (hstatus _ _).trans (clearEncoderError_keepsPlace _)
  · exact hstatus _ _

theorem commandReportAck_keepsPlace (p : List Byte) (s : State) : KeepsPlace s (commandReportAck p s).1 := by
  unfold commandReportAck
  dsimp only
  split
  · exact .refl s
  · split
    · exact acknowledge_keepsPlace _ _ s
    · exact .refl s

/-- A change of the line state that does not enter RUN or DRAINING from elsewhere. -/
theorem setLine_keepsPlace {l : LineState} {s : State} (h : l = .run ∨ l = .draining → s.tracks) :
    KeepsPlace s (setLine l s) := by
  have hkeeps := setLine_keeps l s
  refine ⟨by rw [hkeeps.mot], debtInv_of_le (by rw [hkeeps.mot]) hkeeps.active ?_⟩
  unfold State.tracks
  rw [setLine_line]
  exact h

theorem purgeItems_keepsPlace (c : PurgeCause) (scope : Option LaneId) (s : State) : KeepsPlace s (purgeItems c scope s) :=
  .of_tracking (purgeItems_evolves c scope s) (purgeItems_keeps c scope s)

theorem haltLine_keepsPlace (c : PurgeCause) (s : State) : KeepsPlace s (haltLine c s) :=
  have hline : KeepsPlace s (setLine (haltedLine s) s) :=
    setLine_keepsPlace fun h => absurd h (by unfold haltedLine; split <;> simp)
  hline.trans (purgeItems_keepsPlace c none _)

/-- RUN is entered without debt (R108). -/
theorem setDebt_zero_keepsPlace {s u : State} (h : u.mot = s.mot) : KeepsPlace s (setDebt 0 u) := by
  rw [setDebt_eq]
  have hposition : u.mot.position = s.mot.position := by rw [h]
  exact .of_debt_zero hposition rfl

theorem commandStart_keepsPlace (s : State) : KeepsPlace s (commandStart s).1 := by
  unfold commandStart
  split
  · exact .refl s
  · split
    · exact .refl s
    · exact setDebt_zero_keepsPlace (setLine_keeps .run s).mot

theorem commandStop_keepsPlace (s : State) : KeepsPlace s (commandStop s).1 := by
  unfold commandStop
  split
  next hl => exact setLine_keepsPlace fun _ => .inl hl
  · exact .refl s
  · exact setLine_keepsPlace fun h => absurd h (by simp)
  · exact .refl s

theorem commandHalt_keepsPlace (s : State) : KeepsPlace s (commandHalt s).1 := by
  unfold commandHalt
  split
  · exact haltLine_keepsPlace _ s
  · exact haltLine_keepsPlace _ s
  · exact .refl s
  · exact .refl s

theorem commandAbort_keepsPlace (s : State) : KeepsPlace s (commandAbort s).1 := by
  have hline : KeepsPlace s (setLine .setup s) := setLine_keepsPlace fun h => absurd h (by simp)
  unfold commandAbort
  split
  · exact .refl s
  all_goals exact hline.trans (purgeItems_keepsPlace _ _ _)

theorem commandResume_keepsPlace (s : State) : KeepsPlace s (commandResume s).1 := by
  unfold commandResume
  split
  · exact setDebt_zero_keepsPlace (setLine_keeps .run s).mot
  all_goals exact .refl s

theorem commandPurge_keepsPlace (p : List Byte) (s : State) : KeepsPlace s (commandPurge p s).1 := by
  unfold commandPurge
  split
  · exact .refl s
  · split
    · exact purgeItems_keepsPlace _ _ s
    · exact purgeItems_keepsPlace _ _ s
    · exact .refl s
    · exact .refl s

theorem stage_keepsPlace (c : Option (Configuration → Configuration)) (s : State) : KeepsPlace s (stage c s).1 := by
  cases c <;> exact .of_same rfl rfl rfl rfl

theorem forceByState_keepsPlace (n : OutputId) (a : ForceAction) (s : State) : KeepsPlace s (forceByState n a s).1 := by
  unfold forceByState
  split <;> exact .of_same rfl rfl rfl rfl

theorem commandForceOutput_keepsPlace (p : List Byte) (s : State) : KeepsPlace s (commandForceOutput p s).1 := by
  unfold commandForceOutput
  split
  · split
    · exact .refl s
    · exact forceByState_keepsPlace _ _ s
  · exact .refl s

theorem applyStaged_mot (s : State) :
    (applyStaged s).mot = State.motAfter s.lcu.active.motion { s with lcu := { s.lcu with active := s.lcu.staged } } := by
  rw [applyStaged_eq, (outputsApplied_keeps s).mot, motionAndLanesApplied_eq]

theorem applyStaged_active (s : State) : (applyStaged s).lcu.active = s.lcu.staged := by
  rw [applyStaged_eq, (outputsApplied_keeps s).active, motionAndLanesApplied_eq]

theorem applyStaged_debt (s : State) :
    (applyStaged s).mot.debt = min s.mot.debt (s.lcu.staged.motion.reverseLimit + 1) := by
  rw [applyStaged_mot]
  rfl

/-- The reverse limit is not live: outside SETUP a valid staged copy has the active one's (R145). -/
theorem motion_staged_of_valid {s : State} (hv : applyCheck s = none) (hl : s.lcu.line ≠ .setup) :
    s.lcu.staged.motion = s.lcu.active.motion := by
  by_contra hd
  exact applyCheck_eq_none.mp hv _ (.motionNotLive hl hd)

theorem applyStaged_keepsPlace {s : State} (hv : applyCheck s = none) : KeepsPlace s (applyStaged s) where
  position := by
    rw [applyStaged_mot]
    rfl
  debt := by
    rintro ⟨-, hlimit⟩
    unfold DebtInv
    rw [applyStaged_debt, applyStaged_active]
    refine ⟨min_le_right _ _, fun ht => ?_⟩
    have hs : s.tracks := (applyStaged_evolves s).tracks ht
    have hsetup : s.lcu.line ≠ .setup := by rcases hs with h | h <;> rw [h] <;> decide
    rw [motion_staged_of_valid hv hsetup]
    exact (min_le_left _ _).trans (hlimit hs)

theorem commandApply_keepsPlace (s : State) : KeepsPlace s (commandApply s).1 := by
  unfold commandApply
  split
  · exact .refl s
  next hv => exact applyStaged_keepsPlace hv

theorem instantCommand_keepsPlace (k : Kind) (p : List Byte) (s : State) : ∀ x ∈ instantCommand k p s, KeepsPlace s x.1 := by
  rintro x hx
  cases k
  case verdict => cases hx
  case advance =>
    obtain ⟨r, -, rfl⟩ := Option.map_eq_some_iff.mp hx
    exact .refl s
  case setLink => cases hx; unfold commandSetLink; split <;> exact .refl s
  case readConfig => cases hx; unfold commandReadConfig; split <;> exact .refl s
  case readItem =>
    cases hx
    unfold commandReadItem
    dsimp only
    split
    · exact .refl s
    · split <;> exact .refl s
  case listItems => cases hx; unfold commandListItems; split <;> exact .refl s
  case getCounters => cases hx; exact commandGetCounters_keepsPlace p s
  case reportAck => cases hx; exact commandReportAck_keepsPlace p s
  case start => cases hx; exact commandStart_keepsPlace s
  case stop => cases hx; exact commandStop_keepsPlace s
  case halt => cases hx; exact commandHalt_keepsPlace s
  case abort => cases hx; exact commandAbort_keepsPlace s
  case resume => cases hx; exact commandResume_keepsPlace s
  case purge => cases hx; exact commandPurge_keepsPlace p s
  case setMotion | setLane | setStation | setOutput | setReporting => cases hx; exact stage_keepsPlace _ s
  case apply => cases hx; exact commandApply_keepsPlace s
  case forceOutput => cases hx; exact commandForceOutput_keepsPlace p s
  case identify | linkResume | getStatus | replay | resetPart | revert =>
    cases hx
    exact .of_same rfl rfl rfl rfl

/-! ### What follows an event -/

theorem answerTaken_keepsPlace (kind seq : Byte) (crc : BitVec 16) (a : Answer) (s : State) :
    KeepsPlace s (answerTaken kind seq crc a s) := .of_same rfl rfl rfl rfl

theorem executeCommand_keepsPlace (k : Kind) (f : Frame) (s : State) : KeepsPlace s (executeCommand k f s) := by
  unfold executeCommand
  split
  next hx => exact (instantCommand_keepsPlace _ _ s _ hx).trans (answerTaken_keepsPlace ..)
  · exact .of_blocks (beginCommand_sameBlocks k f s)

theorem takeCommand_keepsPlace (f : Frame) (s : State) : KeepsPlace s (takeCommand f s) := by
  have htaken : KeepsPlace s (mapLnk (fun l => { l with lastTaken := some f.seq }) s) := .of_blocks (mapLnk_sameBlocks _ s)
  unfold takeCommand
  dsimp only
  split
  · exact htaken.trans (answerTaken_keepsPlace ..)
  · split
    · exact htaken.trans (executeCommand_keepsPlace _ f _)
    · exact htaken.trans (answerTaken_keepsPlace ..)

theorem judgeTaken_keepsPlace (f : Frame) (s : State) : KeepsPlace s (judgeTaken f s) := by
  unfold judgeTaken
  split
  · exact .of_same rfl rfl rfl rfl
  · split
    · exact .of_blocks (takeLinkResume_sameBlocks f s)
    · split
      · exact .of_same rfl rfl rfl rfl
      · exact takeCommand_keepsPlace f s

theorem takeFrames_keepsPlace (k : Nat) : ∀ s, KeepsPlace s (takeFrames k s) := by
  induction k with
  | zero => exact .refl
  | succ k ih =>
    intro s
    unfold takeFrames
    split
    · split
      · exact (((KeepsPlace.of_blocks (mapLnk_sameBlocks _ s)).trans (judgeTaken_keepsPlace _ _)).trans
          (.of_blocks (endEvent_sameBlocks _))).trans (ih _)
      · exact .refl s
    · exact .refl s

theorem settle_keepsPlace (s : State) : KeepsPlace s (settle s) :=
  (KeepsPlace.of_blocks (endEvent_sameBlocks s)).trans (takeFrames_keepsPlace _ _)

/-! ### Rows -/

/-- What a row can do to the track position and the debt: nothing, a count, or a reset of the part. -/
inductive RowMoves (c : Instr) (s t : State) : Prop where
  | stands (h : KeepsPlace s t)
  | counts (hc : canMakeCount c = true) (h : MakesCount s t)
  | resets (hc : canReset c = true) (hp : t.mot.position = 0) (hd : DebtInv t)

theorem RowMoves.then_place {c : Instr} {s t u : State} (h : RowMoves c s t) (k : KeepsPlace t u) : RowMoves c s u := by
  cases h with
  | stands h => exact .stands (h.trans k)
  | counts hc h => exact .counts hc (h.then_place k)
  | resets hc hp hd => exact .resets hc (k.position.trans hp) (k.debt hd)

theorem RowMoves.debt {c : Instr} {s t : State} (h : RowMoves c s t) (hs : DebtInv s) : DebtInv t := by
  cases h with
  | stands h => exact h.debt hs
  | counts _ h => exact h.debt hs
  | resets _ _ hd => exact hd

theorem partReset_moves {c : Instr} (hc : canReset c = true) (s u : State) : RowMoves c s (partReset u) :=
  .resets hc rfl (debtInv_of_zero rfl)

theorem linkReset_moves {c : Instr} (hc : canReset c = true) {s u : State} (h : SameBlocks s u) :
    RowMoves c s (linkReset u) := by
  unfold linkReset
  dsimp only
  split
  · exact partReset_moves hc s _
  · exact .stands ((KeepsPlace.of_blocks h).trans (.of_same rfl rfl rfl rfl))

theorem endTransmission_moves {c : Instr} (hc : canReset c = true) (s : State) : RowMoves c s (endTransmission s) := by
  unfold endTransmission transmitEffect
  split
  · exact .stands (.refl s)
  · split
    · exact .stands (.of_same rfl rfl rfl rfl)
    · exact .stands (.of_same rfl rfl rfl rfl)
    · exact partReset_moves hc s _

theorem takeNextPair_keepsPlace (s : State) : KeepsPlace s (takeNextPair s) := by
  unfold takeNextPair
  split
  · dsimp only
    split
    · exact (takePair_keepsPlace _ _ s).trans (.of_blocks (finishTaken_sameBlocks _ _ _))
    · exact (takePair_keepsPlace _ _ s).trans (.of_same rfl rfl rfl rfl)
  · exact .refl s

theorem characterReceived_keepsPlace (v : Byte) (e : Bool) (s : State) :
    KeepsPlace s (if s.lnk.broken then s else if e then takeFramingError s else takeCharacter v s) := by
  split
  · exact .refl s
  · split
    · exact .of_blocks (takeFramingError_sameBlocks s)
    · exact .of_blocks (takeCharacter_sameBlocks v s)

theorem rowEvent_moves (c : Instr) (s : State) : RowMoves c s (rowEvent c s) := by
  unfold rowEvent
  split
  · exact .stands (.of_blocks (offerFrame_sameBlocks _ s))
  · split
    · exact .stands (takeNextPair_keepsPlace s)
    · exact .counts rfl (makeAdvanceCount_count _ s)
    · exact .stands (.of_blocks (endAdvance_sameBlocks s))
    · exact .resets rfl rfl (debtInv_of_zero rfl)
    · exact .stands (characterReceived_keepsPlace _ _ s)
    · exact .stands (.of_blocks (gapExpiry_sameBlocks s))
    · exact .stands (.of_blocks (mapLnk_sameBlocks _ s))
    · exact linkReset_moves rfl (mapLnk_sameBlocks _ s)
    · exact endTransmission_moves rfl s
    · exact .counts rfl (encoderSample_count _ _ s)
    · exact .counts rfl (paceOverflow_count _ s)
    · exact .stands (standstillExpiry_keepsPlace s)
    · exact .stands (sampleDetector_keepsPlace _ _ s)
    · exact .stands (sampleDetector_keepsPlace _ _ s)
    · exact .stands (debounceExpiry_keepsPlace _ s)
    · exact .stands (takeRequest_keepsPlace _ s)
    · exact .stands (endTimeExpiry_keepsPlace _ s)
    · exact .stands (maxOnExpiry_keepsPlace _ s)
    · exact .stands (recoveryExpiry_keepsPlace _ s)
    · exact .stands (.refl s)

theorem exec_moves {c : Instr} {s t : State} (h : exec c s = .next t) : RowMoves c s t := by
  rw [exec_eq_settle] at h
  cases h
  exact (rowEvent_moves c s).then_place (settle_keepsPlace _)

/-- Settles O55: only a count raises the debt, and the count that passes the limit leaves RUN and DRAINING. -/
theorem debtBoundIsKept : Obligations.DebtBoundIsKept := by
  intro s t hs ht
  unfold step at ht
  split at ht
  · cases ht
    exact hs
  · exact (exec_moves ht).debt hs

/-- Settles O60: of the rows' events only a forward tick and a reset set the position. -/
theorem positionMovesByCountsAlone : Obligations.PositionMovesByCountsAlone := by
  intro c s t h
  cases exec_moves h with
  | stands k => exact .inl k.position
  | counts hc k => exact k.position.imp_right fun hp => .inl ⟨hc, hp⟩
  | resets hc hp _ => exact .inr (.inr ⟨hc, hp⟩)

end Sys2Proof.Machine

end

/-! ## Proofs: O31 to O33, O35 and O36, the rows of MOT and of an ADVANCE -/

section

namespace Sys2Proof.Machine

open Sys2Proof

/-! ### A forward tick as the whole of an event (R98, R99, R108, R111) -/

theorem OnlyDetects.rest {s t : State} (h : OnlyDetects s t) :
    t.pending = s.pending ∧ t.now = s.now ∧ t.pins = s.pins ∧ t.lnk = s.lnk ∧ t.cmd = s.cmd ∧ t.drawn = s.drawn := by
  rw [h.eq]
  exact ⟨rfl, rfl, rfl, rfl, rfl, rfl⟩

/-- What a forward tick leaves alone at the link and at CMD. -/
theorem forwardTick_link (o : TickOrder) {s : State} (h : s.mot.position + 1 < 2 ^ 48) :
    (forwardTick o s).lnk = s.lnk ∧ (forwardTick o s).cmd = s.cmd := by
  obtain ⟨hdet, hrest⟩ := forwardTick_parts o s
  rw [markMoving_advancePosition h] at hdet hrest
  obtain ⟨-, -, -, hlnk, hcmd, -⟩ := hdet.rest
  exact ⟨hrest.lnk.trans hlnk, hrest.cmd.trans hcmd⟩

theorem forwardTick_taken (o : TickOrder) {s : State} (h : s.mot.position + 1 < 2 ^ 48) : TickTaken s (forwardTick o s) := by
  obtain ⟨hdet, hrest⟩ := forwardTick_parts o s
  rw [markMoving_advancePosition h] at hdet hrest
  obtain ⟨hpending, hnow, hpins, hlnk, -, hdrawn⟩ := hdet.rest
  have hlnk' : (forwardTick o s).lnk = s.lnk := hrest.lnk.trans hlnk
  refine ⟨hrest.mot.trans hdet.mot, hrest.now.trans hnow, hrest.pins.trans hpins, hrest.active.trans ?_, hrest.staged.trans ?_,
    hrest.pending.trans hpending, hrest.drawn.trans hdrawn, ?_, by rw [hlnk']⟩
  · rw [hdet.lcu]
    rfl
  · rw [hdet.lcu]
    rfl
  · rw [hrest.requests]
    exact hdet.requests

/-- The end of an event changes nothing that a tick is told by. -/
theorem TickTaken.endEvent {s t : State} (h : TickTaken s t) (hlnk : t.lnk = s.lnk)
    (hidle : s.lnk.sending = none → s.lnk.notice = none ∧ s.lnk.replies = []) : TickTaken s (endEvent t) := by
  obtain ⟨hmot, hnow, hpins, hactive, hstaged, hpending, hdrawn, hrequests, -⟩ := h
  obtain ⟨epending, enow, epins, elcu, emot, -, erequests, -, -, -, edrawn, -⟩ := endEvent_keeps t
  have elnk := endEvent_lnk (s := t) (by rw [hlnk]; exact hidle)
  rw [hlnk] at elnk
  exact ⟨emot.trans hmot, enow.trans hnow, epins.trans hpins, by rw [elcu]; exact hactive, by rw [elcu]; exact hstaged,
    epending.trans hpending, edrawn.trans hdrawn, by rw [erequests]; exact hrequests, elnk⟩

/-! ### A count as the whole of a row (R108) -/

theorem withDue_of_not_due {s : State} (h : s.rpt.latchDue = false) (changed : Bool) :
    s.withDue changed = { s with rpt := { s.rpt with latchDue := changed } } := by
  unfold State.withDue
  rw [h, Bool.false_or]

/-- A row whose event is one forward count, made by a part that is quiet until then. -/
theorem forwardCount_row {c : Instr} {s u : State} {o : TickOrder} (h : Quiet u)
    (hx : exec c s = .next (settle (forwardCount o u))) :
    (0 < u.mot.debt → exec c s = .next (endEvent { u with
      mot := { u.mot with debt := u.mot.debt - 1 }
      rpt := { u.rpt with latchDue := decide (u.mot.debt = 1) } }))
    ∧ (u.mot.debt = 0 → u.mot.position + 1 < 2 ^ 48 →
      exec c s = .next (endEvent (forwardTick o u))
        ∧ TickTaken u (endEvent (forwardTick o u)) ∧ (endEvent (forwardTick o u)).cmd = u.cmd) := by
  obtain ⟨⟨hdue, hidle, -⟩, hfree⟩ := h
  refine ⟨fun hd => ?_, fun hd hp => ?_⟩
  · rw [hx, forwardCount_repays o hd, withDue_of_not_due (by exact hdue), settle_noFrame (by exact hfree)]
  · obtain ⟨hlnk, hcmd⟩ := forwardTick_link o hp
    have htaken := (forwardTick_taken o hp).endEvent hlnk fun hn => ⟨(hidle hn).1, (hidle hn).2.1⟩
    have hfree' : NoFrameTaken (forwardTick o u) := by
      unfold NoFrameTaken
      rw [hlnk, hcmd]
      exact hfree
    obtain ⟨-, -, -, -, -, -, -, -, -, ecmd, -, -⟩ := endEvent_keeps (forwardTick o u)
    rw [hx, forwardCount_ticks o hd, settle_noFrame hfree']
    exact ⟨rfl, htaken, ecmd.trans hcmd⟩

/-! ### ADVANCE (R105, R106, R107) -/

theorem advanceCounts_eq_zero {low high : Byte} : num16 [low, high] 0 = 0 ↔ low = 0 ∧ high = 0 := by
  have hcounts : num16 [low, high] 0 = low.toNat + 256 * high.toNat := rfl
  have hlow : low.toNat = 0 ↔ low = 0 := BitVec.toNat_inj (y := 0)
  have hhigh : high.toNat = 0 ↔ high = 0 := BitVec.toNat_inj (y := 0)
  rw [hcounts, ← hlow, ← hhigh]
  omega

theorem exec_advance_refused {s : State} {q low high : Byte} {r : Result} (h : Takes s 0x29 q [low, high])
    (hr : advanceRefusal [low, high] s = some r) :
    exec (.advance q [low, high]) s = .next { s with lnk := s.lnk.afterTaken 0x29 q [low, high] ⟨r, [], .none⟩ } := by
  have hcommand : instantCommand .advance [low, high] (s.taking q) = some (s.taking q, answer r []) :=
    congrArg (Option.map fun r => (s.taking q, answer r [])) hr
  rw [exec_frame rfl, receiveFrame_inspect h (by decide) (by decide) rfl hcommand]
  rfl

theorem exec_advance_begins {s : State} {q low high : Byte} (h : Takes s 0x29 q [low, high])
    (hr : advanceRefusal [low, high] s = none) :
    exec (.advance q [low, high]) s = .next { s with
      cmd := .advancing ⟨0x29, q, frameCrc 0x29 q [low, high], false⟩ s.now (low.toNat + 256 * high.toNat) 0 0
      lnk := { s.lnk.counted with lastTaken := some q } } := by
  have hcommand : instantCommand .advance [low, high] (s.taking q) = none :=
    congrArg (Option.map fun r => (s.taking q, answer r [])) hr
  rw [exec_frame rfl, receiveFrame_begins h (by decide) (by decide) rfl hcommand]
  rfl

theorem endAdvance_last {s : State} {c : Taken} {since made ticks : Nat} (h : s.cmd = .advancing c since 0 made ticks) :
    endAdvance s = finishTaken c (advanceAnswer ticks s) s := by
  unfold endAdvance
  rw [h]
  rfl

/-- Settles O31: ADVANCE's refusals are judged in the order of R105, and its end is that of a command that takes time. -/
theorem advanceBeginsAndEnds : Obligations.AdvanceBeginsAndEnds := by
  refine ⟨fun s q low high h => ⟨fun hn hsource => ?_, fun hlow hhigh => ?_, fun hn hsource => ?_⟩,
    fun s c since made ticks hc hs => ⟨fun hd => ?_, fun hd => ?_⟩⟩
  · refine exec_advance_begins h ?_
    unfold advanceRefusal
    rw [if_neg (mt advanceCounts_eq_zero.mp hn), if_neg (not_not.mpr hsource)]
  · exact exec_advance_refused h (if_pos (advanceCounts_eq_zero.mpr ⟨hlow, hhigh⟩))
  · refine exec_advance_refused h ?_
    unfold advanceRefusal
    rw [if_neg (mt advanceCounts_eq_zero.mp hn), if_pos hsource]
  · show Host.Outcome.next (settle (endAdvance s)) = _
    rw [endAdvance_last hc, settle_finishTaken_reply hs _ hd]
    rfl
  · show Host.Outcome.next (settle (endAdvance s)) = _
    rw [endAdvance_last hc, settle_finishTaken_discard hs _ hd]

/-! ### The counts of an ADVANCE (R106, R108) -/

/-- The part as a count of an ADVANCE finds it: the time base at the count's time, and the count counted (R106). -/
def State.advanced (c : Taken) (since remaining made ticks : Nat) (s : State) : State :=
  { s with now := max s.now (since + made / 2), cmd := .advancing c since remaining (made + 1) ticks }

theorem exec_advanceCount {s : State} (o : TickOrder) {c : Taken} {since remaining made ticks : Nat}
    (hc : s.cmd = .advancing c since (remaining + 1) made ticks) :
    exec (.advanceCount o) s = .next (settle (forwardCount o
      (s.advanced c since remaining made (if s.mot.debt = 0 then ticks + 1 else ticks)))) := by
  show Host.Outcome.next (settle (makeAdvanceCount o s)) = _
  unfold makeAdvanceCount
  rw [hc]
  rfl

theorem advanced_quiet {s : State} (h : Settled s) (c : Taken) (since remaining made ticks : Nat) :
    Quiet (s.advanced c since remaining made ticks) := ⟨h, .inl (fun hc => nomatch hc)⟩

/-- Settles O32: a count of an ADVANCE is a forward count at its own time, and a tick exactly where there is no debt. -/
theorem advanceCountRepaysOrTicks : Obligations.AdvanceCountRepaysOrTicks := by
  intro s o c since remaining made ticks hc hs
  have hrow := forwardCount_row (advanced_quiet hs c since remaining made _) (exec_advanceCount o hc)
  refine ⟨fun hd => ?_, fun hd hp => ?_⟩
  · rw [if_neg hd.ne'] at hrow
    exact hrow.1 hd
  · rw [if_pos hd] at hrow
    exact hrow.2 hd hp

/-! ### The encoder (R102, R103, R112) -/

/-- A legal transition changes one input, and its direction stands in the table (R102). -/
theorem encoderTable_spec : ∀ row ∈ encoderTable, row.2.1 ≠ row.1
    ∧ ¬ (row.2.1.1 ≠ row.1.1 ∧ row.2.1.2 ≠ row.1.2) ∧ (row.2.1 == forwardOf row.1) = row.2.2 := by decide

/-- The part with a new sample of the encoder on its pins. -/
def State.sampled (a b : Bool) (s : State) : State := { s with pins := { s.pins with encA := a, encB := b } }

/-- The part with the sample as the decoder's new reference. -/
def State.referenced (a b : Bool) (s : State) : State :=
  { s.sampled a b with mot := { s.mot with reference := (a, b) } }

section

variable {s : State}

theorem exec_encoderTransition (a b : Bool) (o : TickOrder) :
    exec (.encoderTransition a b o) s = .next (settle (encoderSample (a, b) o s)) := rfl

theorem encoderSample_idle {a b : Bool} (o : TickOrder)
    (h : s.lcu.active.motion.source ≠ .encoder ∨ s.mot.reference = (a, b)) : encoderSample (a, b) o s = s.sampled a b := by
  unfold encoderSample
  dsimp only
  split
  next hsource => exact if_pos (h.resolve_left (not_not.mpr hsource)).symm
  · rfl

theorem encoderSample_illegal {a b : Bool} (o : TickOrder) (hs : s.lcu.active.motion.source = .encoder)
    (h : s.mot.reference = (!a, !b)) :
    encoderSample (a, b) o s = illegalTransition (s.referenced a b) := by
  unfold encoderSample
  dsimp only
  rw [if_pos hs, h, if_neg (by simp), if_pos (by simp)]
  rfl

theorem illegalTransition_eq :
    illegalTransition s = { s with mot := { s.mot with illegal := s.mot.illegal + 1, encoderError := true } }.withDue
      (!s.mot.encoderError) := by
  rw [← passStatus_if]
  unfold illegalTransition
  cases s.mot.encoderError <;> rfl

theorem encoderSample_counts {row : (Bool × Bool) × (Bool × Bool) × Bool} (hrow : row ∈ encoderTable) (o : TickOrder)
    (hs : s.lcu.active.motion.source = .encoder) (h : s.mot.reference = row.1) :
    encoderSample (row.2.1.1, row.2.1.2) o s =
      if (row.2.2 != s.lcu.active.motion.invert) = true then forwardCount o (s.referenced row.2.1.1 row.2.1.2)
      else reverseCount (s.referenced row.2.1.1 row.2.1.2) := by
  obtain ⟨hne, hone, hforward⟩ := encoderTable_spec row hrow
  unfold encoderSample
  dsimp only
  rw [if_pos hs, h, if_neg hne, if_neg hone, hforward]
  rfl

/-- A reverse count leaves the link and CMD alone. -/
theorem reverseCount_link (s : State) : (reverseCount s).lnk = s.lnk ∧ (reverseCount s).cmd = s.cmd := by
  rcases lt_trichotomy s.mot.debt s.lcu.active.motion.reverseLimit with h | h | h
  · rw [reverseCount_below h, setDebt_eq]
    exact ⟨rfl, rfl⟩
  · by_cases hl : s.tracks
    · obtain ⟨-, -, -, hlost⟩ := reverseCountAtTheLimit s
      obtain ⟨-, -, -, hkeeps, -⟩ := hlost h hl
      exact ⟨hkeeps.lnk, hkeeps.cmd⟩
    · rw [reverseCount_capped h hl, setDebt_eq]
      exact ⟨rfl, rfl⟩
  · rw [reverseCount_beyond h]
    exact ⟨rfl, rfl⟩

theorem settle_reverseCount (h : NoFrameTaken s) : settle (reverseCount s) = endEvent (reverseCount s) := by
  obtain ⟨hlnk, hcmd⟩ := reverseCount_link s
  refine settle_noFrame ?_
  unfold NoFrameTaken
  rw [hlnk, hcmd]
  exact h

end

/-- Settles O33: the sample becomes the reference, and the table's direction and invert choose the count. -/
theorem encoderTransitionsMakeCounts : Obligations.EncoderTransitionsMakeCounts := by
  refine ⟨fun s o row hrow hq hs href => ?_, fun s o a b hq => ⟨fun h => ?_, fun hs h => ?_⟩⟩
  · have hquiet : Quiet (s.referenced row.2.1.1 row.2.1.2) := hq
    have hcounts := encoderSample_counts hrow o hs href
    have hexec := exec_encoderTransition (s := s) row.2.1.1 row.2.1.2 o
    refine ⟨fun hdir => ?_, fun hdir => ?_, fun hdir hd => ?_, fun hdir hd => ?_⟩
    · rw [hcounts, if_pos hdir] at hexec
      exact (forwardCount_row hquiet hexec).1
    · rw [hcounts, if_pos hdir] at hexec
      exact (forwardCount_row hquiet hexec).2
    · have hraise : reverseCount (s.referenced row.2.1.1 row.2.1.2) = _ := reverseCount_below hd
      rw [hexec, hcounts, if_neg (by simp [hdir]), hraise, setDebt_eq, becomes_reverse, withDue_of_not_due (by exact hq.1.1),
        settle_noFrame (by exact hq.2)]
      rfl
    · rw [hexec, hcounts, if_neg (by simp [hdir]), settle_reverseCount hquiet.2]
      rfl
  · have hquiet : Quiet (s.sampled a b) := hq
    rw [exec_encoderTransition, encoderSample_idle o h, settle_quiet hquiet]
    rfl
  · rw [exec_encoderTransition, encoderSample_illegal o hs h, illegalTransition_eq, withDue_of_not_due (by exact hq.1.1),
      settle_noFrame (by exact hq.2)]
    rfl

/-! ### The pace generator (R104) -/

/-- The overflow is reached after the k-th of the microseconds to come. -/
theorem paceWait_eq {accumulator rate k : Nat} (hk : 0 < k) (hbefore : accumulator + (k - 1) * rate < 1000000)
    (hreach : 1000000 ≤ accumulator + k * rate) : paceWait accumulator rate = k := by
  obtain ⟨j, rfl⟩ : ∃ j, k = j + 1 := ⟨k - 1, by omega⟩
  rw [Nat.add_sub_cancel] at hbefore
  rw [Nat.succ_mul] at hreach
  unfold paceWait
  refine Nat.div_eq_of_lt_le ?_ ?_
  · rw [Nat.succ_mul]
    omega
  · rw [Nat.succ_mul, Nat.succ_mul]
    omega

section

variable {s : State}

theorem exec_paceCount (o : TickOrder) : exec (.paceCount o) s = .next (settle (paceOverflow o s)) := rfl

theorem paceOverflow_stopped (o : TickOrder) (h : s.lcu.active.motion.source ≠ .pace ∨ s.lcu.active.motion.paceRate = 0) :
    paceOverflow o s = s := by
  unfold paceOverflow
  exact if_neg fun hr => h.elim (fun hs => hs hr.1) hr.2

theorem paceOverflow_owed (o : TickOrder) (hs : s.lcu.active.motion.source = .pace) (hr : s.lcu.active.motion.paceRate ≠ 0)
    (h : 0 < s.mot.owedCounts) :
    paceOverflow o s = forwardCount o { s with mot := { s.mot with owedCounts := s.mot.owedCounts - 1 } } := by
  unfold paceOverflow
  dsimp only
  rw [if_pos ⟨hs, hr⟩, if_pos h.ne']
  rfl

theorem paceOverflow_reached (o : TickOrder) (hs : s.lcu.active.motion.source = .pace) (h : s.mot.owedCounts = 0) {k : Nat}
    (hk : 0 < k) (hbefore : s.mot.accumulator + (k - 1) * s.lcu.active.motion.paceRate < 1000000)
    (hreach : 1000000 ≤ s.mot.accumulator + k * s.lcu.active.motion.paceRate) :
    paceOverflow o s = forwardCount o { s with
      now := max s.now (s.mot.paceTime + k)
      mot := { s.mot with
        accumulator := s.mot.accumulator + k * s.lcu.active.motion.paceRate - 1000000
        paceTime := s.mot.paceTime + k } } := by
  have hr : s.lcu.active.motion.paceRate ≠ 0 := by
    intro hr
    rw [hr] at hbefore hreach
    omega
  have hrun : s.lcu.active.motion.source = .pace ∧ s.lcu.active.motion.paceRate ≠ 0 := ⟨hs, hr⟩
  simp only [paceOverflow, if_pos hrun, h, ne_eq, not_true_eq_false, if_false, mapMot, reachTime,
    paceWait_eq hk hbefore hreach]

end

/-- Settles O35: an owed count first, and otherwise the microseconds that `paceWait` finds, then one forward count. -/
theorem paceCountOverflows : Obligations.PaceCountOverflows := by
  intro s o hq r counts
  have hmade (now accumulator paceTime owed : Nat) (hx : paceOverflow o s = forwardCount o { s with
      now := now
      mot := { s.mot with accumulator := accumulator, paceTime := paceTime, owedCounts := owed } }) :
      counts { s with
        now := now
        mot := { s.mot with accumulator := accumulator, paceTime := paceTime, owedCounts := owed } } := by
    have hexec := exec_paceCount (s := s) o
    rw [hx] at hexec
    exact forwardCount_row (by exact hq) hexec
  refine ⟨fun hs howed k hk hbefore hreach => ?_, fun hs hr howed => ?_, fun h => ?_⟩
  · exact hmade _ _ _ _ (paceOverflow_reached o hs howed hk hbefore hreach)
  · exact hmade _ _ _ _ (paceOverflow_owed o hs hr howed)
  · rw [exec_paceCount, paceOverflow_stopped o h, settle_quiet hq]

/-! ### The standstill timer (R111) -/

theorem standstillExpiry_running {s : State} {e : Nat} (h : s.mot.standstill = some e) :
    standstillExpiry s =
      { s with now := max s.now e, mot := { s.mot with standstill := none, moving := false } }.withDue s.mot.moving := by
  rw [← passStatus_if]
  unfold standstillExpiry
  rw [h]
  rfl

theorem standstillExpiry_stopped {s : State} (h : s.mot.standstill = none) : standstillExpiry s = s := by
  unfold standstillExpiry
  rw [h]

/-- Settles O36: the expiry is the whole of the row, and the comparison is due where MOTION was MOVING. -/
theorem standstillExpiryStopsMotion : Obligations.StandstillExpiryStopsMotion := by
  intro s hq
  refine ⟨fun e he => ?_, fun hn => ?_⟩
  · show Host.Outcome.next (settle (standstillExpiry s)) = _
    rw [standstillExpiry_running he, withDue_of_not_due (by exact hq.1.1), settle_noFrame (by exact hq.2)]
  · show Host.Outcome.next (settle (standstillExpiry s)) = _
    rw [standstillExpiry_stopped hn, settle_quiet hq]

end Sys2Proof.Machine

end

/-! ## Proofs: O43 and O44, samples, edges and the overlong test (R117 to R126)

What each operation of DET does, one equation a case, and the rows as these equations followed by the end of the event. -/

section

namespace Sys2Proof.Machine

open Sys2Proof

/-! ### One lane changed -/

theorem mapLane_mapLane (n : LaneId) (f g : Lane → Lane) (s : State) :
    mapLane n g (mapLane n f s) = mapLane n (fun l => g (f l)) s := by
  simp [mapLane]

theorem mapLane_get_self (n : LaneId) (f : Lane → Lane) (s : State) : (mapLane n f s).det.get n = f (s.det.get n) :=
  Quad.get_set_self ..

theorem mapLane_of_fixed {n : LaneId} {f : Lane → Lane} {s : State} (h : f (s.det.get n) = s.det.get n) : mapLane n f s = s := by
  simp [mapLane, h]

/-- An edge is accepted without its candidate, whatever the candidate was (R119). -/
theorem acceptEdge_without_candidate (n : LaneId) (edge : Nat) (c : Option Candidate) (s : State) :
    acceptEdge n edge (mapLane n (fun l => { l with candidate := c }) s) = acceptEdge n edge s := by
  unfold acceptEdge
  rw [mapLane_mapLane]

/-! ### Accepted edges by the lane's state (R121, R122, R123, R125, R126) -/

section

variable {s : State} {n : LaneId} {edge : Nat}

theorem acceptEdge_idle (hs : (s.det.get n).state = .idle) :
    acceptEdge n edge s = acceptLeading n edge (mapLane n (fun l => { l with candidate := none }) s) := by
  unfold acceptEdge
  dsimp only
  rw [mapLane_get_self, hs]

theorem acceptEdge_suppresses (hs : (s.det.get n).state = .idle)
    (hh : withinHoldoff (s.det.get n).lastLeading (s.laneConfig n).holdoff edge = true) :
    acceptEdge n edge s =
      mapLane n (fun l => { l with candidate := none, state := .suppressed, suppressed := l.suppressed + 1 }) s := by
  rw [acceptEdge_idle hs]
  unfold acceptLeading
  dsimp only
  rw [mapLane_get_self, mapLane_mapLane]
  exact if_pos hh

theorem acceptEdge_enters (hs : (s.det.get n).state = .idle)
    (hh : withinHoldoff (s.det.get n).lastLeading (s.laneConfig n).holdoff edge = false) :
    acceptEdge n edge s =
      { mapLane n (fun l => { l with
          candidate := none, state := .present, leading := some edge, lastLeading := some edge }) s with
        requests := s.requests ++ if (s.laneConfig n).mode = .leading then [⟨n, edge, none, false⟩] else [] } := by
  rw [acceptEdge_idle hs]
  unfold acceptLeading
  dsimp only
  rw [mapLane_get_self, mapLane_mapLane, if_neg (by rw [Bool.not_eq_true]; exact hh), mapLane_mapLane]
  by_cases hm : (s.laneConfig n).mode = .leading
  · rw [if_pos hm]
    exact if_pos hm
  · rw [if_neg hm, List.append_nil]
    exact if_neg hm

theorem acceptEdge_present (hs : (s.det.get n).state = .present) :
    acceptEdge n edge s = acceptTrailing n ((s.det.get n).leading.getD edge) edge
      (mapLane n (fun l => { l with candidate := none }) s) := by
  unfold acceptEdge
  dsimp only
  rw [mapLane_get_self, hs]

theorem acceptEdge_leaves (hs : (s.det.get n).state = .present) (hm : (s.laneConfig n).mode = .leading) :
    acceptEdge n edge s = mapLane n (fun l => { l with candidate := none, state := .idle, leading := none }) s := by
  have hm' : ((mapLane n (fun l => { l with candidate := none }) s).laneConfig n).mode = .leading := hm
  rw [acceptEdge_present hs]
  unfold acceptTrailing
  dsimp only
  rw [hm', mapLane_mapLane]

section

variable {p : Nat} (hm : (s.laneConfig n).mode ≠ .leading)

include hm

/-- Under TRAILING and CENTRE an object is judged by its length (R122, R126). -/
theorem acceptTrailing_measured :
    acceptTrailing n p edge s =
      if edge - p < (s.laneConfig n).minLength then
        mapLane n (fun l => { l with state := .idle, leading := none, runt := l.runt + 1 }) s
      else
        sendRequest ⟨n, if (s.laneConfig n).mode = .trailing then edge else p + (edge - p) / 2, some (edge - p), false⟩
          (mapLane n (fun l => { l with state := .idle, leading := none }) s) := by
  unfold acceptTrailing
  dsimp only
  rw [mapLane_mapLane]
  cases hc : (s.laneConfig n).mode with
  | leading => exact absurd hc hm
  | trailing | centre => rfl

variable (hs : (s.det.get n).state = .present) (hp : (s.det.get n).leading.getD edge = p)

include hs hp

/-- An object shorter than the min length (R122). -/
theorem acceptEdge_runt (hlen : edge - p < (s.laneConfig n).minLength) :
    acceptEdge n edge s =
      mapLane n (fun l => { l with candidate := none, state := .idle, leading := none, runt := l.runt + 1 }) s := by
  rw [acceptEdge_present hs, hp, acceptTrailing_measured (by exact hm), mapLane_mapLane]
  exact if_pos hlen

/-- An object of its length, by its trailing edge or its centre (R126). -/
theorem acceptEdge_measures (hlen : (s.laneConfig n).minLength ≤ edge - p) :
    acceptEdge n edge s =
      sendRequest ⟨n, if (s.laneConfig n).mode = .trailing then edge else p + (edge - p) / 2, some (edge - p), false⟩
        (mapLane n (fun l => { l with candidate := none, state := .idle, leading := none }) s) := by
  rw [acceptEdge_present hs, hp, acceptTrailing_measured (by exact hm), mapLane_mapLane, mapLane_mapLane]
  exact if_neg hlen.not_gt

end

theorem acceptEdge_unsuppresses (hs : (s.det.get n).state = .suppressed) :
    acceptEdge n edge s = mapLane n (fun l => { l with candidate := none, state := .idle }) s := by
  unfold acceptEdge
  dsimp only
  rw [mapLane_get_self, hs, mapLane_mapLane]

/-- The trailing edge of a BLOCKED lane ends JAM (R125). -/
theorem acceptEdge_unblocks (hs : (s.det.get n).state = .blocked) :
    acceptEdge n edge s = passStatus (mapLane n (fun l => { l with candidate := none, state := .idle }) s) := by
  unfold acceptEdge
  dsimp only
  rw [mapLane_get_self, hs, mapLane_mapLane]

end

theorem withinHoldoff_eq_true {last : Option Nat} {holdoff p : Nat} :
    withinHoldoff last holdoff p = true ↔ ∃ q ∈ last, p < q + holdoff := by
  cases last <;> simp [withinHoldoff]

theorem withinHoldoff_eq_false {last : Option Nat} {holdoff p : Nat} :
    withinHoldoff last holdoff p = false ↔ ∀ q ∈ last, q + holdoff ≤ p := by
  cases last <;> simp [withinHoldoff]

/-! ### Samples (R117, R118) -/

/-- The part with this level on the pin of a lane. -/
def State.atLevel (n : LaneId) (level : Bool) (s : State) : State :=
  { s with pins := { s.pins with det := s.pins.det.set n level } }

theorem sampleDetector_enabled {s : State} {n : LaneId} (h : (s.lcu.active.lanes.get n).enabled = true) (level : Bool) :
    sampleDetector n level s = judgeSample n level (s.atLevel n level) := if_pos h

theorem sampleDetector_disabled {s : State} {n : LaneId} (h : (s.lcu.active.lanes.get n).enabled = false) (level : Bool) :
    sampleDetector n level s = s.atLevel n level := if_neg (by unfold State.laneConfig; simp [h])

theorem expectedLevel_eq (s : State) (n : LaneId) :
    s.expectedLevel n = (((s.laneConfig n).polarity == .activeHigh) == ((s.det.get n).state != .idle)) := by
  unfold State.expectedLevel
  cases (s.laneConfig n).polarity <;> cases (s.det.get n).state <;> rfl

/-- A level covers the input otherwise than the lane expects exactly where it is not the expected level (R117). -/
theorem covers_ne_expects (s : State) (n : LaneId) (level : Bool) :
    (isCovered (s.laneConfig n).polarity level != expectsCovered (s.det.get n).state) = decide (level ≠ s.expectedLevel n) := by
  unfold State.expectedLevel
  cases (s.laneConfig n).polarity <;> cases (s.det.get n).state <;> cases level <;> rfl

section

variable {s : State} {n : LaneId} {level : Bool}

theorem judgeSample_expected (h : level = s.expectedLevel n) :
    judgeSample n level s = mapLane n (fun l => { l with candidate := none }) s := by
  have hnone (hc : (s.det.get n).candidate = none) : mapLane n (fun l => { l with candidate := none }) s = s :=
    mapLane_of_fixed (by rw [← hc])
  unfold judgeSample
  dsimp only
  rw [covers_ne_expects, decide_eq_false (not_not.mpr h)]
  cases hc : (s.det.get n).candidate with
  | none => exact (hnone hc).symm
  | some c => rfl

theorem judgeSample_pending (h : level ≠ s.expectedLevel n) (hc : (s.det.get n).candidate.isSome = true) :
    judgeSample n level s = s := by
  obtain ⟨c, hc⟩ := Option.isSome_iff_exists.mp hc
  unfold judgeSample
  dsimp only
  rw [covers_ne_expects, decide_eq_true h, hc]

theorem judgeSample_starts (h : level ≠ s.expectedLevel n) (hc : (s.det.get n).candidate = none) :
    judgeSample n level s = startCandidate n level s := by
  unfold judgeSample
  dsimp only
  rw [covers_ne_expects, decide_eq_true h, hc]

end

theorem debounceExpiry_none {s : State} {n : LaneId} (h : (s.det.get n).candidate = none) : debounceExpiry n s = s := by
  unfold debounceExpiry
  rw [h]

theorem debounceExpiry_some {s : State} {n : LaneId} {c : Candidate} (h : (s.det.get n).candidate = some c) :
    debounceExpiry n s = acceptEdge n c.edge (reachTime c.expiry s) := by
  unfold debounceExpiry
  rw [h]

theorem reachTime_of_le {t : Nat} {s : State} (h : t ≤ s.now) : reachTime t s = s := by
  unfold reachTime
  rw [Nat.max_eq_left h]

/-- A candidate accepted at once is a candidate whose debounce expires now (R118). -/
theorem debounceExpiry_now (n : LaneId) (level : Bool) (edge : Nat) (s : State) :
    debounceExpiry n (mapLane n (fun l => { l with candidate := some ⟨level, edge, s.now⟩ }) s) = acceptEdge n edge s := by
  rw [debounceExpiry_some (c := ⟨level, edge, s.now⟩) (by simp), reachTime_of_le (by simp), acceptEdge_without_candidate]

section

variable {s : State} {n : LaneId}

theorem exec_detectorRawChange (level : Bool) :
    exec (.detectorRawChange n level) s = .next (settle (sampleDetector n level s)) := rfl

theorem exec_detectorRevert : exec (.detectorRevert n) s = .next (settle (sampleDetector n (s.expectedLevel n) s)) := rfl

theorem exec_debounceExpiry : exec (.debounceExpiry n) s = .next (settle (debounceExpiry n s)) := rfl

end

/-- Settles O43: a sample is judged by whether its level is the expected one and whether a candidate stands. -/
theorem detectorSamplesMakeCandidates : Obligations.DetectorSamplesMakeCandidates := by
  intro s n level hq x l atLevel expected
  have hexpected : s.expectedLevel n = expected := expectedLevel_eq s n
  have hlevel (b : Bool) : (s.atLevel n b).expectedLevel n = expected := hexpected
  have hquiet (b : Bool) (k : Lane) : Quiet { atLevel b with det := s.det.set n k } := hq
  have hdrop (hx : x.enabled = true) (b : Bool) (hb : b = expected) : settle (sampleDetector n b s) =
      { atLevel b with det := s.det.set n { l with candidate := none } } := by
    rw [sampleDetector_enabled hx, judgeSample_expected (hb.trans (hlevel b).symm)]
    exact settle_quiet (hquiet b _)
  have hstart (hx : x.enabled = true) (hne : level ≠ expected) (hc : l.candidate = none) :
      sampleDetector n level s = startCandidate n level (s.atLevel n level) := by
    rw [sampleDetector_enabled hx, judgeSample_starts (fun h => hne (h.trans (hlevel level))) hc]
  refine ⟨fun hx => ⟨?_, ?_⟩, fun hx => ⟨?_, fun he => ?_, fun hne hc => ?_, fun hne hc hd => ?_, fun hne hc hd => ?_⟩⟩
  · rw [exec_detectorRawChange, sampleDetector_disabled hx]
    exact congrArg _ (settle_quiet (by exact hq))
  · rw [exec_detectorRevert, hexpected, sampleDetector_disabled hx]
    exact congrArg _ (settle_quiet (by exact hq))
  · rw [exec_detectorRevert, hexpected, hdrop hx expected rfl]
  · rw [exec_detectorRawChange, hdrop hx level he]
  · rw [exec_detectorRawChange, sampleDetector_enabled hx, judgeSample_pending (fun h => hne (h.trans (hlevel level))) hc]
    exact congrArg _ (settle_quiet (by exact hq))
  · rw [exec_detectorRawChange, hstart hx hne hc, startCandidate, if_neg (by exact hd)]
    exact congrArg _ (settle_quiet (hquiet level _))
  · rw [exec_detectorRawChange, hstart hx hne hc, startCandidate, if_pos (by exact hd), exec_debounceExpiry]
    exact congrArg (fun t => Host.Outcome.next (settle t)) (debounceExpiry_now n level _ _).symm

/-! ### The overlong test (R124, R126) -/

section

variable {s : State} {n : LaneId} {p : Nat}

theorem overlongMet_iff {l : Lane} {m x : Nat} (hm : m ≠ 0) :
    overlongMet l p m x = true ↔ (∀ c ∈ l.candidate, p + m ≤ c.edge) ∧ p + m ≤ x := by
  have hlong : m ≤ x - p ↔ p + m ≤ x := by omega
  unfold overlongMet
  cases l.candidate <;> simp [hlong]

theorem overlongTest_unlimited (hm : (s.laneConfig n).maxLength = 0) : overlongTest s n = s := by
  unfold overlongTest
  dsimp only
  split
  · exact if_neg fun h => h.1 hm
  · rfl

/-- The creation requests for an overlong object with this leading position (R126). -/
def LaneConfig.overlongRequests (c : LaneConfig) (n : LaneId) (p : Nat) : List CreationRequest :=
  match c.mode with
  | .leading => []
  | .trailing => [⟨n, p + c.maxLength, some c.maxLength, true⟩]
  | .centre => [⟨n, p + c.maxLength / 2, some c.maxLength, true⟩]

theorem overlongTest_present (hs : (s.det.get n).state = .present) (hp : (s.det.get n).leading = some p) :
    overlongTest s n =
      if (s.laneConfig n).maxLength ≠ 0
          ∧ overlongMet (s.det.get n) p (s.laneConfig n).maxLength s.mot.position = true then
        passStatus (mapLane n (fun l => { l with state := .blocked, leading := none, overlong := l.overlong + 1 })
          { s with requests := s.requests ++ (s.laneConfig n).overlongRequests n p })
      else s := by
  unfold overlongTest
  dsimp only
  rw [hs, hp]
  cases hmode : (s.laneConfig n).mode <;> simp [LaneConfig.overlongRequests, sendRequest, hmode]

end

/-- Settles O44: the row accepts the candidate's edge, by the equation of the lane's state and mode, and the overlong test compares
the object's length with the limit. -/
theorem edgesAndOverlongMoveTheLane : Obligations.EdgesAndOverlongMoveTheLane := by
  constructor
  · intro s n hq x l
    constructor
    · intro hc
      rw [exec_debounceExpiry, debounceExpiry_none hc, settle_quiet hq]
    · intro c hc at'
      have hedge : exec (.debounceExpiry n) s = .next (settle (acceptEdge n c.edge (reachTime c.expiry s))) := by
        rw [exec_debounceExpiry, debounceExpiry_some hc]
      have quiet {t : State} (h : acceptEdge n c.edge (reachTime c.expiry s) = t) (ht : Quiet t) :
          exec (.debounceExpiry n) s = .next t := by
        rw [hedge, h, settle_quiet ht]
      have leads {p : Nat} (hp : l.leading = some p) : l.leading.getD c.edge = p := by rw [hp]; rfl
      refine ⟨fun hs hh => ?_, fun hs hh => ?_, fun p hp hs => ⟨fun hm => ?_, fun hm hlen => ?_, fun hm hlen => ?_⟩,
        fun hs => ?_, fun hs => ?_⟩
      · exact quiet (acceptEdge_suppresses hs (withinHoldoff_eq_true.mpr hh)) hq
      · exact quiet (acceptEdge_enters hs (withinHoldoff_eq_false.mpr hh)) hq
      · exact quiet (acceptEdge_leaves hs hm) hq
      · exact quiet (acceptEdge_runt hm hs (leads hp) hlen) hq
      · exact quiet (acceptEdge_measures hm hs (leads hp) hlen) hq
      · exact quiet (acceptEdge_unsuppresses hs) hq
      · rw [hedge, acceptEdge_unblocks (by exact hs), settle_noFrame (by exact hq.2)]
        rfl
  · intro s n x l
    refine ⟨fun h => h.elim overlongTest_absent overlongTest_unlimited, fun p hp hs hm => ⟨fun h => ?_, fun hc hpos => ?_⟩⟩
    · rw [overlongTest_present hs hp]
      refine if_neg fun hmet => ?_
      obtain ⟨hnone, hlong⟩ := (overlongMet_iff hm).mp hmet.2
      rcases h with ⟨c, hc, hshort⟩ | hshort
      · exact absurd (hnone c hc) hshort.not_ge
      · exact absurd hlong hshort.not_ge
    · rw [overlongTest_present hs hp, if_pos ⟨hm, (overlongMet_iff hm).mpr ⟨hc, hpos⟩⟩]
      rfl

end Sys2Proof.Machine

end

/-! ## Proofs: O59, the form of the lanes (R117, R120, R128)

`KeepsLaneForm` says of an operation that each lane it finds in good form it leaves in good form, under the same active copy. DET's
own operations are followed by their equations; the other blocks leave DET alone. Only an APPLY and a reset change the active copy. -/

section

namespace Sys2Proof.Machine

open Sys2Proof

/-! ### One lane -/

theorem lanesInv_iff {s : State} : LanesInv s ↔ ∀ n, (s.det.get n).Ok (s.lcu.active.lanes.get n) :=
  ⟨fun h n => h n (Sys2Proof.mem_allLanes n), fun h n _ => h n⟩

section

variable {l : Lane} {c : LaneConfig}

/-- Where the lane is enabled only the leading position is bound to the state. -/
theorem Lane.ok_of_enabled (he : c.enabled = true) : l.Ok c ↔ (l.leading.isSome = true ↔ l.state = .present) := by
  simp [Lane.Ok, he]

theorem Lane.Ok.enabled_of_candidate {k : Candidate} (h : l.Ok c) (hk : l.candidate = some k) : c.enabled = true := by
  obtain ⟨-, hdisabled⟩ := h
  by_contra he
  have hnone := (hdisabled (by simpa using he)).2
  rw [hk] at hnone
  cases hnone

theorem Lane.Ok.enabled_of_present (h : l.Ok c) (hs : l.state = .present) : c.enabled = true := by
  obtain ⟨-, hdisabled⟩ := h
  by_contra he
  have hidle := (hdisabled (by simpa using he)).1
  rw [hs] at hidle
  cases hidle

/-- Out of PRESENT there is no leading position (R120). -/
theorem Lane.Ok.no_leading (h : l.Ok c) (hs : l.state ≠ .present) : l.leading = none := by
  obtain ⟨hleading, -⟩ := h
  simpa using fun hl => hs (hleading.mp hl)

theorem Lane.Ok.dropCandidate (h : l.Ok c) : { l with candidate := none }.Ok c := by
  obtain ⟨hleading, hdisabled⟩ := h
  exact ⟨hleading, fun he => ⟨(hdisabled he).1, rfl⟩⟩

/-- A lane that is not re-initialised is enabled as before; one that is has neither a candidate nor a leading position (R128). -/
theorem Lane.Ok.afterApply (h : l.Ok c) (new : LaneConfig) (level : Bool) : (l.afterApply c new level).Ok new := by
  unfold Lane.afterApply
  split
  · refine ⟨?_, fun he => ⟨by simp [he], rfl⟩⟩
    split <;> simp
  next hsame =>
    have henabled : c.enabled = new.enabled := by
      by_contra hne
      exact hsame (.inl hne)
    unfold Lane.Ok
    rw [← henabled]
    exact h

end

/-! ### The relation -/

/-- Every lane found in good form is left in good form, and the active copy stays. -/
structure KeepsLaneForm (s t : State) : Prop where
  active : t.lcu.active = s.lcu.active
  form : ∀ n, (s.det.get n).Ok (s.lcu.active.lanes.get n) → (t.det.get n).Ok (s.lcu.active.lanes.get n)

theorem LanesInv.keeps {s t : State} (h : LanesInv s) (k : KeepsLaneForm s t) : LanesInv t := by
  rw [lanesInv_iff] at h ⊢
  rw [k.active]
  exact fun n => k.form n (h n)

theorem KeepsLaneForm.of_det {s t : State} (hdet : t.det = s.det) (hactive : t.lcu.active = s.lcu.active) : KeepsLaneForm s t :=
  ⟨hactive, fun n h => by rw [hdet]; exact h⟩

theorem KeepsLaneForm.refl (s : State) : KeepsLaneForm s s := .of_det rfl rfl

theorem KeepsLaneForm.trans {a b c : State} (h : KeepsLaneForm a b) (k : KeepsLaneForm b c) : KeepsLaneForm a c where
  active := k.active.trans h.active
  form n ho := by
    have hc := k.form n
    rw [h.active] at hc
    exact hc (h.form n ho)

theorem KeepsLaneForm.foldl {α : Type} (f : State → α → State) (h : ∀ s a, KeepsLaneForm s (f s a)) (l : List α) :
    ∀ s, KeepsLaneForm s (l.foldl f s) := by
  induction l with
  | nil => exact .refl
  | cons a l ih => exact fun s => (h s a).trans (ih (f s a))

theorem KeepsLaneForm.of_tracking {s t : State} (h : KeepsBeyondTracking s t) : KeepsLaneForm s t := .of_det h.det h.active

/-- An operation that puts a lane in the place of one. -/
theorem KeepsLaneForm.of_set {s t : State} {n : LaneId} {l : Lane} (hdet : t.det = s.det.set n l)
    (hactive : t.lcu.active = s.lcu.active)
    (hl : (s.det.get n).Ok (s.lcu.active.lanes.get n) → l.Ok (s.lcu.active.lanes.get n)) : KeepsLaneForm s t where
  active := hactive
  form m h := by
    rw [hdet, Quad.get_set]
    split
    next hm => subst hm; exact hl h
    · exact h

/-! ### DET -/

/-- The edge of an enabled lane is accepted in good form, whatever the lane's state (R120, R121 to R123). -/
theorem acceptEdge_laneForm {n : LaneId} (edge : Nat) {s : State} (he : (s.laneConfig n).enabled = true) :
    KeepsLaneForm s (acceptEdge n edge s) := by
  have hok (l : Lane) : l.Ok (s.lcu.active.lanes.get n) ↔ (l.leading.isSome = true ↔ l.state = .present) :=
    Lane.ok_of_enabled he
  cases hs : (s.det.get n).state with
  | idle =>
    cases hh : withinHoldoff (s.det.get n).lastLeading (s.laneConfig n).holdoff edge with
    | true =>
      rw [acceptEdge_suppresses hs hh]
      refine .of_set rfl rfl fun h => (hok _).mpr ?_
      simp [h.no_leading (by simp [hs])]
    | false =>
      rw [acceptEdge_enters hs hh]
      exact .of_set rfl rfl fun _ => (hok _).mpr (by simp)
  | present =>
    by_cases hm : (s.laneConfig n).mode = .leading
    · rw [acceptEdge_leaves hs hm]
      exact .of_set rfl rfl fun _ => (hok _).mpr (by simp)
    · rcases lt_or_ge (edge - (s.det.get n).leading.getD edge) (s.laneConfig n).minLength with hlen | hlen
      · rw [acceptEdge_runt hm hs rfl hlen]
        exact .of_set rfl rfl fun _ => (hok _).mpr (by simp)
      · rw [acceptEdge_measures hm hs rfl hlen]
        exact .of_set rfl rfl fun _ => (hok _).mpr (by simp)
  | suppressed =>
    rw [acceptEdge_unsuppresses hs]
    refine .of_set rfl rfl fun h => (hok _).mpr ?_
    simp [h.no_leading (by simp [hs])]
  | blocked =>
    rw [acceptEdge_unblocks hs]
    refine .of_set rfl rfl fun h => (hok _).mpr ?_
    simp [h.no_leading (by simp [hs])]

/-- A candidate starts on an enabled lane, or its edge is accepted at once (R118). -/
theorem startCandidate_laneForm {n : LaneId} (level : Bool) {s : State} (he : (s.laneConfig n).enabled = true) :
    KeepsLaneForm s (startCandidate n level s) := by
  unfold startCandidate
  dsimp only
  split
  · exact acceptEdge_laneForm _ he
  · exact .of_set rfl rfl fun ⟨hleading, _⟩ => (Lane.ok_of_enabled he).mpr hleading

theorem sampleDetector_laneForm (n : LaneId) (level : Bool) (s : State) : KeepsLaneForm s (sampleDetector n level s) := by
  have hlevel : KeepsLaneForm s (s.atLevel n level) := .of_det rfl rfl
  cases he : (s.lcu.active.lanes.get n).enabled with
  | false =>
    rw [sampleDetector_disabled he]
    exact hlevel
  | true =>
    rw [sampleDetector_enabled he]
    refine hlevel.trans ?_
    by_cases h : level = (s.atLevel n level).expectedLevel n
    · rw [judgeSample_expected h]
      exact .of_set rfl rfl Lane.Ok.dropCandidate
    · cases hc : ((s.atLevel n level).det.get n).candidate with
      | some c =>
        rw [judgeSample_pending h (by rw [hc]; rfl)]
        exact .refl _
      | none =>
        rw [judgeSample_starts h hc]
        exact startCandidate_laneForm level he

/-- A candidate stands on an enabled lane alone, whose edge is accepted in good form (R117, R119). -/
theorem debounceExpiry_lanesInv (n : LaneId) {s : State} (h : LanesInv s) : LanesInv (debounceExpiry n s) := by
  cases hc : (s.det.get n).candidate with
  | none =>
    rw [debounceExpiry_none hc]
    exact h
  | some c =>
    have he : (s.laneConfig n).enabled = true := (lanesInv_iff.mp h n).enabled_of_candidate hc
    have hreach : KeepsLaneForm s (reachTime c.expiry s) := .of_det rfl rfl
    rw [debounceExpiry_some hc]
    exact h.keeps (hreach.trans (acceptEdge_laneForm c.edge he))

/-- An overlong object is found on an enabled lane alone, and leaves it BLOCKED without a leading position (R124). -/
theorem overlongTest_laneForm (s : State) (n : LaneId) : KeepsLaneForm s (overlongTest s n) := by
  by_cases hs : (s.det.get n).state = .present
  · cases hp : (s.det.get n).leading with
    | none =>
      have hsame : overlongTest s n = s := by
        unfold overlongTest
        dsimp only
        rw [hs, hp]
      rw [hsame]
      exact .refl s
    | some p =>
      rw [overlongTest_present hs hp]
      split
      · exact .of_set rfl rfl fun h => (Lane.ok_of_enabled (h.enabled_of_present hs)).mpr (by simp)
      · exact .refl s
  · rw [overlongTest_absent hs]
    exact .refl s

/-! ### MOT, with TRK and OUT behind it -/

theorem forwardTick_laneForm (o : TickOrder) (s : State) : KeepsLaneForm s (forwardTick o s) := by
  have hadvance : KeepsLaneForm s (advancePosition s) := by
    unfold advancePosition
    split <;> exact .of_det rfl rfl
  have hmoving : KeepsLaneForm (advancePosition s) (markMoving (advancePosition s)) := by
    rw [markMoving_eq]
    exact .of_det rfl rfl
  obtain ⟨-, hrest⟩ := forwardTick_parts o s
  exact ((hadvance.trans hmoving).trans (.foldl _ overlongTest_laneForm allLanes _)).trans (.of_tracking hrest)

theorem forwardCount_laneForm (o : TickOrder) (s : State) : KeepsLaneForm s (forwardCount o s) := by
  rcases Nat.eq_zero_or_pos s.mot.debt with h | h
  · rw [forwardCount_ticks o h]
    exact forwardTick_laneForm o s
  · rw [forwardCount_repays o h]
    exact .of_det rfl rfl

theorem setDebt_laneForm (d : Nat) (s : State) : KeepsLaneForm s (setDebt d s) := by
  rw [setDebt_eq]
  exact .of_det rfl rfl

theorem reverseCount_laneForm (s : State) : KeepsLaneForm s (reverseCount s) := by
  have hdebt := setDebt_laneForm (s.mot.debt + 1) s
  unfold reverseCount
  dsimp only
  split
  · exact .refl s
  · split
    · exact (hdebt.trans (.of_tracking (passFault_keeps _ _).toKeepsBeyondTracking)).trans (.of_tracking (haltLine_keeps _ _))
    · exact hdebt

theorem encoderSample_laneForm (x : Bool × Bool) (o : TickOrder) (s : State) : KeepsLaneForm s (encoderSample x o s) := by
  have hpins : KeepsLaneForm s { s with pins := { s.pins with encA := x.1, encB := x.2 } } := .of_det rfl rfl
  have hmot (f : Mot → Mot) (u : State) : KeepsLaneForm u (mapMot f u) := .of_det rfl rfl
  unfold encoderSample
  dsimp only
  split
  · split
    · exact hpins
    · refine (hpins.trans (hmot (fun m => { m with reference := x }) _)).trans ?_
      split
      · rw [illegalTransition_eq]
        exact .of_det rfl rfl
      · split
        · exact forwardCount_laneForm o _
        · exact reverseCount_laneForm _
  · exact hpins

theorem paceOverflow_laneForm (o : TickOrder) (s : State) : KeepsLaneForm s (paceOverflow o s) := by
  have hmot (f : Mot → Mot) (u : State) : KeepsLaneForm u (mapMot f u) := .of_det rfl rfl
  have hreach (t : Nat) (u : State) : KeepsLaneForm u (reachTime t u) := .of_det rfl rfl
  unfold paceOverflow
  dsimp only
  split
  · split
    · exact (hmot _ s).trans (forwardCount_laneForm o _)
    · exact ((hmot _ s).trans (hreach _ _)).trans (forwardCount_laneForm o _)
  · exact .refl s

theorem standstillExpiry_laneForm (s : State) : KeepsLaneForm s (standstillExpiry s) := by
  cases h : s.mot.standstill with
  | none => rw [standstillExpiry_stopped h]; exact .refl s
  | some e => rw [standstillExpiry_running h]; exact .of_det rfl rfl

/-! ### TRK and OUT -/

theorem takePair_laneForm (t : Tag) (b : Byte) (s : State) : KeepsLaneForm s (takePair t b s).1 := by
  unfold takePair
  split
  · exact .refl s
  · split
    · exact .refl s
    · split
      · exact .refl s
      · dsimp only
        split <;> exact .of_det rfl rfl

theorem takeRequest_laneForm (n : LaneId) (s : State) : KeepsLaneForm s (takeRequest n s) := by
  have htaken (r : CreationRequest) : KeepsLaneForm s { s with requests := s.requests.erase r } := .of_det rfl rfl
  unfold takeRequest
  split
  · exact .refl s
  · exact (htaken _).trans (.of_tracking (takeCreation_keeps _ _))

theorem endTimeExpiry_laneForm (n : OutputId) (s : State) : KeepsLaneForm s (endTimeExpiry n s) := by
  have hreach (t : Nat) : KeepsLaneForm s (reachTime t s) := .of_det rfl rfl
  unfold endTimeExpiry
  split
  · exact .refl s
  · exact (hreach _).trans (.of_tracking (endIfMet_keeps n _))

theorem maxOnExpiry_laneForm (n : OutputId) (s : State) : KeepsLaneForm s (maxOnExpiry n s) := by
  have hreach (t : Nat) : KeepsLaneForm s (reachTime t s) := .of_det rfl rfl
  unfold maxOnExpiry
  split
  · exact .refl s
  · exact (hreach _).trans (.of_tracking (endPulse_keeps n true _))

theorem recoveryExpiry_laneForm (n : OutputId) (s : State) : KeepsLaneForm s (recoveryExpiry n s) := by
  unfold recoveryExpiry
  split
  · exact .refl s
  · exact .of_det rfl rfl

/-! ### Commands -/

theorem setLine_laneForm (l : LineState) (s : State) : KeepsLaneForm s (setLine l s) := .of_tracking (setLine_keeps l s)

theorem purgeItems_laneForm (c : PurgeCause) (scope : Option LaneId) (s : State) : KeepsLaneForm s (purgeItems c scope s) :=
  .of_tracking (purgeItems_keeps c scope s)

theorem commandStart_laneForm (s : State) : KeepsLaneForm s (commandStart s).1 := by
  have hpatterns (u : State) (k : Trk) : KeepsLaneForm u { u with trk := k } := .of_det rfl rfl
  unfold commandStart
  split
  · exact .refl s
  · split
    · exact .refl s
    · exact ((setLine_laneForm .run s).trans (hpatterns _ _)).trans (setDebt_laneForm 0 _)

theorem commandStop_laneForm (s : State) : KeepsLaneForm s (commandStop s).1 := by
  unfold commandStop
  split
  · exact setLine_laneForm _ s
  · exact .refl s
  · exact setLine_laneForm _ s
  · exact .refl s

theorem commandHalt_laneForm (s : State) : KeepsLaneForm s (commandHalt s).1 := by
  unfold commandHalt
  split
  · exact .of_tracking (haltLine_keeps _ s)
  · exact .of_tracking (haltLine_keeps _ s)
  · exact .refl s
  · exact .refl s

theorem commandAbort_laneForm (s : State) : KeepsLaneForm s (commandAbort s).1 := by
  unfold commandAbort
  split
  · exact .refl s
  all_goals exact (setLine_laneForm _ s).trans (purgeItems_laneForm _ _ _)

theorem commandResume_laneForm (s : State) : KeepsLaneForm s (commandResume s).1 := by
  unfold commandResume
  split
  · exact (setLine_laneForm _ s).trans (setDebt_laneForm 0 _)
  all_goals exact .refl s

theorem commandPurge_laneForm (p : List Byte) (s : State) : KeepsLaneForm s (commandPurge p s).1 := by
  unfold commandPurge
  split
  · exact .refl s
  · split
    · exact purgeItems_laneForm _ _ s
    · exact purgeItems_laneForm _ _ s
    · exact .refl s
    · exact .refl s

theorem commandForceOutput_laneForm (p : List Byte) (s : State) : KeepsLaneForm s (commandForceOutput p s).1 := by
  have hforce (n : OutputId) (a : ForceAction) : KeepsLaneForm s (forceByState n a s).1 := by
    unfold forceByState
    split <;> exact .of_det rfl rfl
  unfold commandForceOutput
  split
  · split
    · exact .refl s
    · exact hforce _ _
  · exact .refl s

/-- A lane's counters are cleared beside its form. -/
theorem clearCounters_laneForm (g : CounterGroup) (s : State) : KeepsLaneForm s (clearCounters g s) := by
  cases g with
  | lane n => exact .of_set rfl rfl fun h => h
  | station | output | motion | link | reports => exact .of_det rfl rfl

theorem commandGetCounters_laneForm (p : List Byte) (s : State) : KeepsLaneForm s (commandGetCounters p s).1 := by
  unfold commandGetCounters
  split
  · dsimp only
    split
    · exact clearCounters_laneForm _ s
    · exact .refl s
  · exact .refl s

theorem acknowledge_laneForm (n : BitVec 16) (w : Nat) (s : State) : KeepsLaneForm s (acknowledge n w s) := by
  have hstatus (b : Bool) (r : Rpt) : KeepsLaneForm s (if b then { s with rpt := r } else passStatus { s with rpt := r }) := by
    cases b <;> exact .of_det rfl rfl
  have hclear (u : State) : KeepsLaneForm u (clearEncoderError u) := by
    unfold clearEncoderError
    split <;> exact .of_det rfl rfl
  unfold acknowledge
  dsimp only
  split
  · exact (hstatus _ _).trans (hclear _)
  · exact hstatus _ _

theorem commandReportAck_laneForm (p : List Byte) (s : State) : KeepsLaneForm s (commandReportAck p s).1 := by
  unfold commandReportAck
  dsimp only
  split
  · exact .refl s
  · split
    · exact acknowledge_laneForm _ _ s
    · exact .refl s

/-- A successful APPLY gives each lane a new object, and leaves the lane in the form that object calls for (R128). -/
theorem applyStaged_lanesInv {s : State} (h : LanesInv s) : LanesInv (applyStaged s) := by
  rw [lanesInv_iff] at h ⊢
  intro n
  have hdet : (applyStaged s).det.get n =
      (s.det.get n).afterApply (s.lcu.active.lanes.get n) (s.lcu.staged.lanes.get n) (s.pins.det.get n) := by
    rw [applyStaged_eq, (outputsApplied_keeps s).det, motionAndLanesApplied_get]
  rw [hdet, applyStaged_active]
  exact (h n).afterApply _ _

theorem commandApply_lanesInv {s : State} (h : LanesInv s) : LanesInv (commandApply s).1 := by
  unfold commandApply
  split
  · exact h
  · exact applyStaged_lanesInv h

theorem instantCommand_lanesInv (k : Kind) (p : List Byte) {s : State} (h : LanesInv s) :
    ∀ x ∈ instantCommand k p s, LanesInv x.1 := by
  rintro x hx
  have stages (c : Option (Configuration → Configuration)) : LanesInv (stage c s).1 := by cases c <;> exact h
  cases k
  case verdict => cases hx
  case advance =>
    obtain ⟨r, -, rfl⟩ := Option.map_eq_some_iff.mp hx
    exact h
  case apply => cases hx; exact commandApply_lanesInv h
  case start => cases hx; exact h.keeps (commandStart_laneForm s)
  case stop => cases hx; exact h.keeps (commandStop_laneForm s)
  case halt => cases hx; exact h.keeps (commandHalt_laneForm s)
  case abort => cases hx; exact h.keeps (commandAbort_laneForm s)
  case resume => cases hx; exact h.keeps (commandResume_laneForm s)
  case purge => cases hx; exact h.keeps (commandPurge_laneForm p s)
  case forceOutput => cases hx; exact h.keeps (commandForceOutput_laneForm p s)
  case getCounters => cases hx; exact h.keeps (commandGetCounters_laneForm p s)
  case reportAck => cases hx; exact h.keeps (commandReportAck_laneForm p s)
  case setMotion | setLane | setStation | setOutput | setReporting => cases hx; exact stages _
  case setLink => cases hx; unfold commandSetLink; split <;> exact h
  case readConfig => cases hx; unfold commandReadConfig; split <;> exact h
  case readItem => cases hx; unfold commandReadItem; dsimp only; split <;> (try split) <;> exact h
  case listItems => cases hx; unfold commandListItems; split <;> exact h
  case identify | linkResume | getStatus | replay | resetPart | revert => cases hx; exact h

/-! ### Every step -/

theorem partReset_lanesInv (s : State) : LanesInv (partReset s) := reset_lanesInv

theorem lanesInv_keptByBlocks : KeptByBlocks LanesInv where
  frame h ht := h.keeps (.of_det ht.det (by rw [ht.lcu]))
  command k p _ h := instantCommand_lanesInv k p h
  reset := partReset_lanesInv
  pair t b _ h := h.keeps (takePair_laneForm t b _)
  encoder x o _ h := h.keeps (encoderSample_laneForm x o _)
  pace o _ h := h.keeps (paceOverflow_laneForm o _)
  count o _ h := h.keeps (forwardCount_laneForm o _)
  standstill h := h.keeps (standstillExpiry_laneForm _)
  sample n level _ h := h.keeps (sampleDetector_laneForm n level _)
  debounce n _ h := debounceExpiry_lanesInv n h
  creation n _ h := h.keeps (takeRequest_laneForm n _)
  endTime n _ h := h.keeps (endTimeExpiry_laneForm n _)
  maxOn n _ h := h.keeps (maxOnExpiry_laneForm n _)
  recovery n _ h := h.keeps (recoveryExpiry_laneForm n _)

/-- Settles O59: DET acts on enabled lanes alone, each of its operations leaves a lane in the form of the state it enters, and no
other block touches a lane but by an APPLY or a reset. -/
theorem laneFormIsKept : Obligations.LaneFormIsKept := fun _ _ => lanesInv_keptByBlocks.step_keeps

end Sys2Proof.Machine

end

/-! ## Proofs: O15, O16, O20, line states (R132, R133, R137, R148) -/

section

namespace Sys2Proof.Machine

open Sys2Proof

/-! ### A row that its command's owner completes -/

theorem kindOf_code (k : Kind) : kindOf k.code = some k := by cases k <;> rfl

theorem code_ne_linkResume {k : Kind} (h : k ≠ .linkResume) : k.code ≠ Kind.linkResume.code := by
  intro hcode
  have hkinds := kindOf_code k
  rw [hcode, kindOf_code] at hkinds
  exact h (Option.some.inj hkinds).symm

section

variable {c : Instr} {k : Kind} {s : State} {q : Byte} {p : List Byte} {a : Answer}
  (hc : frameOfRow c = some (k.code, q, p)) (hk : k ≠ .linkResume) (h : Takes s k.code q p)
  (hl : k.admits p.length = true)

include hc hk h hl

/-- The owner leaves LNK to CMD, which answers (R157, R160). -/
theorem exec_completes {t : State} (hx : instantCommand k p (s.taking q) = some (t, a)) (ht : t.lnk = (s.taking q).lnk) :
    exec c s = .next (concluded { t with lnk := s.lnk.afterTaken k.code q p a }) := by
  rw [exec_frame hc, receiveFrame_instant h (code_ne_linkResume hk) (kindOf_code k) hl hx ht]

/-- The owner changes nothing that the latch compares or ATTN follows, so the answer alone ends the event. -/
theorem exec_completes_settled {t : State} (hx : instantCommand k p (s.taking q) = some (t.taking q, a))
    (hlnk : t.lnk = s.lnk) (ht : Settled t) : exec c s = .next { t with lnk := s.lnk.afterTaken k.code q p a } := by
  have htaking : (t.taking q).lnk = (s.taking q).lnk := by
    unfold State.taking
    rw [hlnk]
  have hhold : (s.lnk.afterTaken k.code q p a).hold = t.lnk.hold := by rw [afterTaken_hold, hlnk]
  rw [exec_completes hc hk h hl hx htaking]
  exact congrArg Host.Outcome.next (concluded_of_settled ht hhold)

/-- The owner changes nothing. -/
theorem exec_answers (hx : instantCommand k p (s.taking q) = some (s.taking q, a)) :
    exec c s = .next { s with lnk := s.lnk.afterTaken k.code q p a } :=
  exec_completes_settled hc hk h hl hx rfl h.1.1

end

/-! ### A line command that changes the line state -/

/-- The part with the line in another state, and the latch called on to compare (R131). -/
def State.entering (l : LineState) (s : State) : State :=
  { s with lcu := { s.lcu with line := l }, rpt := { s.rpt with latchDue := true } }

theorem setLine_enters {l : LineState} {s : State} (h : s.lcu.line ≠ l) : setLine l s = s.entering l := by
  rw [setLine_eq, decide_eq_true h]
  unfold State.withDue
  rw [Bool.or_true]
  rfl

/-- Where the latch is called on already, a change of REVERSE adds nothing. -/
theorem setDebt_of_due (d : Nat) {s : State} (h : s.rpt.latchDue = true) :
    setDebt d s = { s with mot := { s.mot with debt := d } } := by
  rw [setDebt_eq]
  unfold State.withDue
  dsimp only
  rw [h, Bool.true_or, ← h]

/-! ### START and RESUME (R132, R137) -/

theorem allLanes_eq_finRange : allLanes = List.finRange 4 := by decide

/-- The search for a lane finds the first that fits. -/
theorem find?_allLanes {f : LaneId → Bool} {n : LaneId} (hn : f n = true) (hfirst : ∀ m < n, f m = false) :
    allLanes.find? f = some n := by
  rw [allLanes_eq_finRange, List.find?_eq_some_iff_getElem]
  refine ⟨hn, n.val, by simp, by simp, fun j hj => ?_⟩
  rw [List.getElem_finRange, hfirst _ hj]
  rfl

section

variable {c : Configuration}

theorem startCheck_noEnabledLane (h : ∀ n, (c.lanes.get n).enabled = false) :
    startCheck c = some ⟨.noEnabledLane, .lane, 0⟩ := by
  unfold startCheck
  exact if_pos (by simp [h])

/-- With an enabled lane, what is left is the search for an enabled lane that no station serves. -/
theorem startCheck_of_enabledLane {n : LaneId} (h : (c.lanes.get n).enabled = true) :
    startCheck c =
      (allLanes.find? fun n => (c.lanes.get n).enabled && allEight.all fun st => !(c.stations.get st).serves n).map
        fun n => ⟨.laneNoStation, .lane, n.val⟩ := by
  have hsome : ¬ (allLanes.all fun n => !(c.lanes.get n).enabled) = true := by
    intro hall
    have hn := List.all_eq_true.mp hall n (mem_allLanes n)
    rw [h] at hn
    exact absurd hn (by decide)
  unfold startCheck
  exact if_neg hsome

/-- What START looks for in a lane: enabled, and no station acts on its items (R132). -/
theorem unserved_iff {n : LaneId} :
    ((c.lanes.get n).enabled && allEight.all fun st => !(c.stations.get st).serves n) = true ↔
      (c.lanes.get n).enabled = true ∧ ∀ st, (c.stations.get st).kind = .off ∨ (c.stations.get st).lane ≠ n := by
  simp [StationConfig.serves, mem_allEight]

theorem not_unserved_of_station {n : LaneId}
    (h : (c.lanes.get n).enabled = true → ∃ st, (c.stations.get st).kind ≠ .off ∧ (c.stations.get st).lane = n) :
    ((c.lanes.get n).enabled && allEight.all fun st => !(c.stations.get st).serves n) = false := by
  rw [Bool.eq_false_iff, ne_eq, unserved_iff]
  rintro ⟨henabled, hnone⟩
  obtain ⟨st, hkind, hlane⟩ := h henabled
  exact (hnone st).elim hkind fun hne => hne hlane

theorem startCheck_laneNoStation {n : LaneId} (hn : (c.lanes.get n).enabled = true)
    (hnone : ∀ st, (c.stations.get st).kind = .off ∨ (c.stations.get st).lane ≠ n)
    (hfirst : ∀ m, m < n → (c.lanes.get m).enabled = true →
      ∃ st, (c.stations.get st).kind ≠ .off ∧ (c.stations.get st).lane = m) :
    startCheck c = some ⟨.laneNoStation, .lane, n.val⟩ := by
  rw [startCheck_of_enabledLane hn,
    find?_allLanes (unserved_iff.mpr ⟨hn, hnone⟩) fun m hm => not_unserved_of_station (hfirst m hm)]
  rfl

theorem startCheck_passes (hsome : ∃ n, (c.lanes.get n).enabled = true)
    (hall : ∀ n, (c.lanes.get n).enabled = true →
      ∃ st, (c.stations.get st).kind ≠ .off ∧ (c.stations.get st).lane = n) : startCheck c = none := by
  obtain ⟨n, hn⟩ := hsome
  have hfind : allLanes.find? (fun n => (c.lanes.get n).enabled && allEight.all fun st => !(c.stations.get st).serves n)
      = none :=
    List.find?_eq_none.mpr fun m _ => Bool.eq_false_iff.mp (not_unserved_of_station (hall m))
  rw [startCheck_of_enabledLane hn, hfind]
  rfl

end

section

variable {s : State}

theorem commandStart_wrongState (h : s.lcu.line ≠ .setup) : commandStart s = lineAnswer .wrongState 0 none s := if_pos h

theorem commandStart_invalid {v : Violation} (h : s.lcu.line = .setup) (hv : startCheck s.lcu.active = some v) :
    commandStart s = (s, ⟨.invalidConfig, 0 :: 0 :: validationBytes (some v), .none⟩) := by
  unfold commandStart
  rw [if_neg (not_not.mpr h), hv]
  unfold lineAnswer lineBody
  rw [h]
  rfl

theorem commandStart_runs (h : s.lcu.line = .setup) (hv : startCheck s.lcu.active = none) :
    commandStart s =
      lineAnswer .ok 0 none { s.entering .run with
        trk := { s.trk with patterns := Oct.same 0 }, mot := { s.mot with debt := 0 } } := by
  have hne : s.lcu.line ≠ .run := by
    rw [h]
    decide
  unfold commandStart
  rw [if_neg (not_not.mpr h), hv]
  dsimp only
  rw [setLine_enters hne, setDebt_of_due 0 (by rfl)]
  rfl

theorem commandResume_runs (h : s.lcu.line = .halted) :
    commandResume s = lineAnswer .ok 0 none { s.entering .run with mot := { s.mot with debt := 0 } } := by
  have hne : s.lcu.line ≠ .run := by
    rw [h]
    decide
  unfold commandResume
  rw [h]
  dsimp only
  rw [setLine_enters hne, setDebt_of_due 0 (by rfl)]
  rfl

theorem commandResume_wrongState (h : s.lcu.line ≠ .halted) : commandResume s = lineAnswer .wrongState 0 none s := by
  unfold commandResume
  cases hline : s.lcu.line with
  | halted => exact absurd hline h
  | setup | run | draining => rfl

end

/-- Settles O15: START's two checks decide its answer, and both commands enter RUN by one change of the line state, after which the
debt's change calls for no further comparison. -/
theorem startAndResumeEnterRun : Obligations.StartAndResumeEnterRun := by
  refine ⟨⟨fun s q h hl hsome hall => ?_, fun s q h => ⟨fun hl => ?_, fun hl hnone => ?_, fun n hl hn hnone hfirst => ?_⟩⟩,
    fun s q h => ⟨fun hl => ?_, fun hl => ?_⟩⟩
  · exact exec_completes (k := .start) rfl (by decide) h rfl
      (congrArg some (commandStart_runs (s := s.taking q) hl (startCheck_passes hsome hall))) rfl
  · exact exec_answers (k := .start) rfl (by decide) h rfl (congrArg some (commandStart_wrongState (s := s.taking q) hl))
  · exact exec_answers (k := .start) rfl (by decide) h rfl
      (congrArg some (commandStart_invalid (s := s.taking q) hl (startCheck_noEnabledLane hnone)))
  · exact exec_answers (k := .start) rfl (by decide) h rfl
      (congrArg some (commandStart_invalid (s := s.taking q) hl (startCheck_laneNoStation hn hnone hfirst)))
  · exact exec_completes (k := .resume) rfl (by decide) h rfl
      (congrArg some (commandResume_runs (s := s.taking q) hl)) rfl
  · exact exec_answers (k := .resume) rfl (by decide) h rfl
      (congrArg some (commandResume_wrongState (s := s.taking q) hl))

/-! ### STOP and RESET_PART (R133, R148) -/

section

variable {s : State}

theorem commandStop_drains (h : s.lcu.line = .run) (ht : s.trk.table ≠ []) :
    commandStop s = lineAnswer .ok 0 none (s.entering .draining) := by
  have hne : s.lcu.line ≠ .draining := by
    rw [h]
    decide
  unfold commandStop
  rw [h]
  dsimp only
  rw [if_neg (mt List.isEmpty_iff.mp ht), setLine_enters hne]

theorem commandStop_ends (h : s.lcu.line = .halted ∨ (s.lcu.line = .run ∧ s.trk.table = [])) :
    commandStop s = lineAnswer .ok 0 none (s.entering .setup) := by
  have hne : s.lcu.line ≠ .setup := by
    rcases h with h | ⟨h, -⟩ <;> rw [h] <;> decide
  rw [← setLine_enters hne]
  unfold commandStop
  rcases h with h | ⟨h, ht⟩
  · rw [h]
  · rw [h, ht]
    rfl

theorem commandStop_already (h : s.lcu.line = .draining) : commandStop s = (s, ⟨.already, [2, 0, 0, 0, 0], .none⟩) := by
  unfold commandStop lineAnswer lineBody
  rw [h]
  rfl

theorem commandStop_wrongState (h : s.lcu.line = .setup) :
    commandStop s = (s, ⟨.wrongState, [0, 0, 0, 0, 0], .none⟩) := by
  unfold commandStop lineAnswer lineBody
  rw [h]
  rfl

end

/-- Settles O16: STOP's answer by the line state, and by the table in RUN. -/
theorem stopByLineState : Obligations.StopByLineState := by
  refine fun s q h => ⟨fun hl ht => ?_, fun hl => ?_, fun hl => ?_, fun hl => ?_⟩
  · exact exec_completes (k := .stop) rfl (by decide) h rfl
      (congrArg some (commandStop_drains (s := s.taking q) hl ht)) rfl
  · exact exec_completes (k := .stop) rfl (by decide) h rfl
      (congrArg some (commandStop_ends (s := s.taking q) hl)) rfl
  · exact exec_answers (k := .stop) rfl (by decide) h rfl (congrArg some (commandStop_already (s := s.taking q) hl))
  · exact exec_answers (k := .stop) rfl (by decide) h rfl (congrArg some (commandStop_wrongState (s := s.taking q) hl))

/-- Settles O20: closing CMD is nothing that the latch compares or ATTN follows, so the reply is all that the event ends with. -/
theorem resetPartClosesTheCommandUnit : Obligations.ResetPartClosesTheCommandUnit := fun s _ h =>
  exec_completes_settled (t := { s with cmd := .closed }) (k := .resetPart) rfl (by decide) h rfl rfl rfl h.1.1

end Sys2Proof.Machine

end

/-! ## Proofs: O21, O23, the staged copy (R142, R143, R144) -/

section

namespace Sys2Proof.Machine

open Sys2Proof

/-! ### The SET commands (R142, R143) -/

/-- The part after a SET of this frame: what the payload spells in the staged copy, or BAD_ARGUMENT (R143). -/
def State.afterSet (s : State) (k : Kind) (q : Byte) (p : List Byte) : Option (Configuration → Configuration) → State
  | some f => { s with
      lcu := { s.lcu with staged := f s.lcu.staged }, lnk := s.lnk.afterTaken k.code q p ⟨.ok, [], .none⟩ }
  | none => { s with lnk := s.lnk.afterTaken k.code q p ⟨.badArgument, [], .none⟩ }

/-- The part after a SET of one of several objects, by the index byte and what the payload spells. -/
def State.afterSetAt {n : Nat} {α : Type} (s : State) (k : Kind) (q : Byte) (p : List Byte) (b : Byte)
    (put : Fin n → α → Configuration → Configuration) : Option α → State
  | some x => if hb : b.toNat < n then s.afterSet k q p (some (put ⟨b.toNat, hb⟩ x)) else s.afterSet k q p none
  | none => s.afterSet k q p none

theorem afterSetAt_eq {n : Nat} {α : Type} (s : State) (k : Kind) (q : Byte) (p : List Byte) (b : Byte)
    (put : Fin n → α → Configuration → Configuration) (x : Option α) :
    s.afterSetAt k q p b put x = s.afterSet k q p ((finOf n b).bind fun m => x.map (put m)) := by
  unfold finOf
  cases x with
  | none => cases (if hb : b.toNat < n then some (⟨b.toNat, hb⟩ : Fin n) else none) <;> rfl
  | some a =>
    by_cases hb : b.toNat < n
    · rw [dif_pos hb]
      exact dif_pos hb
    · rw [dif_neg hb]
      exact dif_neg hb

section

variable {i : Instr} {k : Kind} {s : State} {q : Byte} {p : List Byte}
  (hi : frameOfRow i = some (k.code, q, p)) (hk : k ≠ .linkResume) (h : Takes s k.code q p)
  (hl : k.admits p.length = true)

include hi hk h hl

theorem exec_stages {f : Option (Configuration → Configuration)}
    (hx : instantCommand k p (s.taking q) = some (stage f (s.taking q))) : exec i s = .next (s.afterSet k q p f) := by
  cases f with
  | some f =>
    exact exec_completes_settled (t := { s with lcu := { s.lcu with staged := f s.lcu.staged } }) hi hk h hl hx rfl h.1.1
  | none => exact exec_answers hi hk h hl hx

/-- A SET of one of several objects: the index byte and the object are both judged. -/
theorem exec_stages_at {n : Nat} {α : Type} {b : Byte} {x : Option α} {put : Fin n → α → Configuration → Configuration}
    (hx : instantCommand k p (s.taking q) = some (stage ((finOf n b).bind fun m => x.map (put m)) (s.taking q))) :
    exec i s = .next (s.afterSetAt k q p b put x) := by
  rw [exec_stages hi hk h hl hx, afterSetAt_eq]

end

/-- A two-byte field is its two bytes, the low one first (R197). -/
theorem ofNat_num16 (low high : Byte) : BitVec.ofNat 16 (num16 [low, high] 0) = high ++ low := by
  have hlow := low.isLt
  have hhigh := high.isLt
  apply BitVec.eq_of_toNat_eq
  rw [BitVec.toNat_append, BitVec.toNat_ofNat, ← Nat.shiftLeft_add_eq_or_of_lt hlow]
  show (low.toNat + 256 * high.toNat) % 2 ^ 16 = _
  omega

/-- Settles O21: each SET stages what its reader makes of the payload behind the index byte, and nothing where the index or the
object is out of range. -/
theorem setCommandsStageObjects : Obligations.SetCommandsStageObjects := by
  refine fun s q => ⟨fun p hp h => ?_, fun b p hp h => ?_, fun b p hp h => ?_, fun b p hp h => ?_, fun low high h => ?_⟩
  · have hlen : Kind.setMotion.admits p.length = true := by rw [hp]; rfl
    rw [exec_stages (k := .setMotion) rfl (by decide) h hlen rfl]
    cases readMotion p 0 <;> rfl
  · have hlen : Kind.setLane.admits (b :: p).length = true := by rw [List.length_cons, hp]; rfl
    rw [exec_stages_at (k := .setLane) (b := b) (x := readLane p 0) rfl (by decide) h hlen rfl]
    cases readLane p 0 <;> rfl
  · have hlen : Kind.setStation.admits (b :: p).length = true := by rw [List.length_cons, hp]; rfl
    rw [exec_stages_at (k := .setStation) (b := b) (x := readStation p 0) rfl (by decide) h hlen rfl]
    cases readStation p 0 <;> rfl
  · have hlen : Kind.setOutput.admits (b :: p).length = true := by rw [List.length_cons, hp]; rfl
    rw [exec_stages_at (k := .setOutput) (b := b) (x := readOutput p 0) rfl (by decide) h hlen rfl]
    cases readOutput p 0 <;> rfl
  · rw [exec_stages (k := .setReporting) rfl (by decide) h rfl rfl, ← ofNat_num16]
    rfl

/-! ### READ_CONFIG and REVERT (R144) -/

theorem finOf_lane (n : LaneId) : finOf 4 (byteOf n.val) = some n := (finOf_eq_some (by decide)).mpr rfl

theorem finOf_eq_none {n : Nat} {b : Byte} (h : n ≤ b.toNat) : finOf n b = none := dif_neg (by omega)

section

variable (c : Configuration)

theorem objectBytes_lane (n : LaneId) : objectBytes c 1 (byteOf n.val) = some (laneBytes (c.lanes.get n)) :=
  congrArg (Option.map fun n => laneBytes (c.lanes.get n)) (finOf_lane n)

theorem objectBytes_station (n : StationId) : objectBytes c 2 (byteOf n.val) = some (stationBytes (c.stations.get n)) :=
  congrArg (Option.map fun n => stationBytes (c.stations.get n)) (finOf_output n)

theorem objectBytes_output (n : OutputId) : objectBytes c 3 (byteOf n.val) = some (outputBytes (c.outputs.get n)) :=
  congrArg (Option.map fun n => outputBytes (c.outputs.get n)) (finOf_output n)

/-- No object of the kind and index: the kind is none of the five, or the index is out of its kind's range (R144). -/
theorem objectBytes_eq_none {y z : Byte}
    (h : 4 < y.toNat ∨ (y ∈ [0, 4] ∧ z ≠ 0) ∨ (y = 1 ∧ 3 < z.toNat) ∨ (y ∈ [2, 3] ∧ 7 < z.toNat)) :
    objectBytes c y z = none := by
  rcases h with hkind | ⟨hkind, hz⟩ | ⟨rfl, hz⟩ | ⟨hkind, hz⟩
  · have hne (k : Byte) (hk : k.toNat ≤ 4) : y ≠ k := by
      rintro rfl
      omega
    unfold objectBytes
    rw [if_neg (hne 0 (by decide)), if_neg (hne 1 (by decide)), if_neg (hne 2 (by decide)), if_neg (hne 3 (by decide)),
      if_neg (hne 4 (by decide))]
  · obtain rfl | rfl : y = 0 ∨ y = 4 := by simpa using hkind
    · exact if_neg hz
    · exact if_neg hz
  · exact congrArg (Option.map fun n => laneBytes (c.lanes.get n)) (finOf_eq_none hz)
  · obtain rfl | rfl : y = 2 ∨ y = 3 := by simpa using hkind
    · exact congrArg (Option.map fun n => stationBytes (c.stations.get n)) (finOf_eq_none hz)
    · exact congrArg (Option.map fun n => outputBytes (c.outputs.get n)) (finOf_eq_none hz)

end

section

variable {s : State} {q x y z : Byte}

theorem copyOf_eq_none (h : 1 < x.toNat) : copyOf s x = none := by
  have hne (k : Byte) (hk : k.toNat ≤ 1) : x ≠ k := by
    rintro rfl
    omega
  unfold copyOf
  rw [if_neg (hne 0 (by decide)), if_neg (hne 1 (by decide))]

theorem commandReadConfig_found {c : Configuration} {bytes : List Byte} (hc : copyOf s x = some c)
    (ho : objectBytes c y z = some bytes) : commandReadConfig [x, y, z] s = (s, answer .ok (x :: y :: z :: bytes)) := by
  have hread : ((copyOf s x).bind fun c => objectBytes c y z) = some bytes := by rw [hc, Option.bind_some, ho]
  unfold commandReadConfig
  show (match (copyOf s x).bind fun c => objectBytes c y z with | some _ => _ | none => _) = _
  rw [hread]
  rfl

theorem commandReadConfig_badArgument (h : ((copyOf s x).bind fun c => objectBytes c y z) = none) :
    commandReadConfig [x, y, z] s = (s, answer .badArgument []) := by
  unfold commandReadConfig
  show (match (copyOf s x).bind fun c => objectBytes c y z with | some _ => _ | none => _) = _
  rw [h]

theorem exec_readConfig_found {c : Configuration} {bytes : List Byte} (h : Takes s 0x1E q [x, y, z])
    (hc : copyOf s x = some c) (ho : objectBytes c y z = some bytes) :
    exec (.readConfig q [x, y, z]) s =
      .next { s with lnk := s.lnk.afterTaken 0x1E q [x, y, z] ⟨.ok, [x, y, z] ++ bytes, .none⟩ } :=
  exec_answers (k := .readConfig) rfl (by decide) h rfl (congrArg some (commandReadConfig_found (s := s.taking q) hc ho))

end

/-- Settles O23: the copy byte names a copy, kind and index an object of it, and what is not in range is no object. -/
theorem readConfigAndRevert : Obligations.ReadConfigAndRevert := by
  refine ⟨fun s q staged => ?_, fun s q h => ?_⟩
  · have hcopy : copyOf s (if staged then 0 else 1) = some (if staged then s.lcu.staged else s.lcu.active) := by
      cases staged <;> rfl
    refine ⟨fun h => ?_, fun n h => ?_, fun n h => ?_, fun n h => ?_, fun h => ?_, fun x y z hbad h => ?_⟩
    · exact exec_readConfig_found h hcopy rfl
    · exact exec_readConfig_found h hcopy (objectBytes_lane _ n)
    · exact exec_readConfig_found h hcopy (objectBytes_station _ n)
    · exact exec_readConfig_found h hcopy (objectBytes_output _ n)
    · exact exec_readConfig_found h hcopy rfl
    · have hnone : ((copyOf (s.taking q) x).bind fun c => objectBytes c y z) = none := by
        rcases hbad with hx | hobject
        · rw [copyOf_eq_none hx, Option.bind_none]
        · exact Option.bind_eq_none_iff.mpr fun c _ => objectBytes_eq_none c hobject
      exact exec_answers (k := .readConfig) rfl (by decide) h rfl (congrArg some (commandReadConfig_badArgument hnone))
  · exact exec_completes_settled (t := { s with lcu := { s.lcu with staged := s.lcu.active } }) (k := .revert) rfl
      (by decide) h rfl rfl rfl h.1.1

end Sys2Proof.Machine

end

/-! ## Proofs: O41, O42, the link reset and the transmitter (R148, R149, R151, R157, R164, R165, R166, R176, R179) -/

section

namespace Sys2Proof.Machine

open Sys2Proof

/-! ### The end of an event after which the latch does not compare -/

theorem endEvent_arbitrates {s t : State} (hd : s.rpt.latchDue = false) (ha : arbitrate s = t) :
    endEvent s = { t with rpt := { t.rpt with attention := t.attentionDue } } := by
  unfold endEvent
  rw [latch_of_not_due hd, ha]

/-- Of LNK, ATTN follows hold alone (R185). -/
theorem attentionDue_withLnk {s : State} {l : Lnk} (h : l.hold = s.lnk.hold) : (s.withLnk l).attentionDue = s.attentionDue := by
  unfold State.attentionDue
  rw [withLnk_lnk, h]
  rfl

/-- The arbiter takes from LNK alone, so ATTN stands. -/
theorem endEvent_arbitrates_link {s : State} {l m : Lnk} (h : Settled s) (ha : arbitrate (s.withLnk l) = s.withLnk m)
    (hm : m.hold = s.lnk.hold) : endEvent (s.withLnk l) = s.withLnk m := by
  obtain ⟨hd, -, hattention⟩ := h
  rw [endEvent_arbitrates (by exact hd) ha, attentionDue_withLnk hm, ← hattention]
  rfl

/-! ### The part reset (R148, R149) -/

theorem partReset_settled (s : State) : Settled (partReset s) := ⟨rfl, fun _ => ⟨rfl, rfl, rfl⟩, rfl⟩

/-- After a part reset no frame waits, and nothing is reported (R169, R187). -/
theorem settle_partReset (s : State) : settle (partReset s) = partReset s :=
  settle_quiet ⟨partReset_settled s, .inr (.inl rfl)⟩

/-! ### The link reset (R164, R165, R179) -/

/-- A link reset discards a RESET_PART's reply where CMD is CLOSED and the reply still queued (R149, R165). -/
theorem resetDue_iff {s : State} :
    (s.cmd == .closed && s.lnk.resetReplyQueued) = true ↔ s.cmd = .closed ∧ ∃ r ∈ s.lnk.replies, r.effect = .partReset := by
  simp [Lnk.resetReplyQueued]

/-- The BREAK is counted before the link reset (R164, R168). -/
def State.breakCounted (s : State) : State := countLink (fun c => { c with breaks := c.breaks + 1 }) s

/-- The part after a BREAK that discards no RESET_PART's reply (R164, R165, R179). -/
def State.afterBreak (s : State) : State :=
  { s with
    cmd := s.cmd.discarded
    lnk := { s.lnk with
      receiver := .hunt, broken := false, received := [], replies := [], notice := none, hold := false, cache := none
      counters := { s.lnk.counters with breaks := s.lnk.counters.breaks + 1 } }
    rpt := { s.rpt with queue := s.rpt.queue.map (fun e : ReportEntry => { e with sent := false }), window := 0 } }

theorem exec_linkBreak (s : State) : exec .linkBreak s = .next (settle (linkReset s.breakCounted)) := rfl

section

variable {s : State}

theorem linkReset_eq :
    linkReset s.breakCounted =
      if s.cmd == .closed && s.lnk.resetReplyQueued then partReset s.afterBreak else s.afterBreak := by
  unfold linkReset breakReports replayEntries State.breakCounted countLink mapLnk State.afterBreak
  rfl

theorem linkReset_clears (h : ¬ (s.cmd = .closed ∧ ∃ r ∈ s.lnk.replies, r.effect = .partReset)) :
    linkReset s.breakCounted = s.afterBreak := by
  rw [linkReset_eq, if_neg (mt resetDue_iff.mp h)]

theorem linkReset_resets (h : s.cmd = .closed ∧ ∃ r ∈ s.lnk.replies, r.effect = .partReset) :
    linkReset s.breakCounted = partReset s.afterBreak := by
  rw [linkReset_eq, if_pos (resetDue_iff.mpr h)]

/-- A link that was reset has nothing to send, with W at 0, and no frame to take: only ATTN is left to follow. -/
theorem settle_afterBreak (h : s.rpt.latchDue = false) :
    settle s.afterBreak = { s.afterBreak with rpt := { s.afterBreak.rpt with attention := s.afterBreak.attentionDue } } := by
  have hoffered : s.afterBreak.rpt.offered = none := if_neg (Nat.not_lt_zero _)
  exact settle_of_endEvent (endEvent_arbitrates h (arbitrate_nothing fun _ => ⟨rfl, rfl, hoffered⟩))

end

/-- Settles O41: the link reset ends in an empty link or, where it discards a RESET_PART's reply, in the reset part; neither has
anything to send or a frame to take. -/
theorem breakResetsTheLink : Obligations.BreakResetsTheLink := by
  refine ⟨fun s hd => ⟨fun hkept => ?_, fun hclosed hreply => ?_⟩, fun s h => ?_⟩
  · rw [exec_linkBreak, linkReset_clears hkept, settle_afterBreak hd]
    unfold State.afterBreak
    cases s.cmd <;> rfl
  · rw [exec_linkBreak, linkReset_resets ⟨hclosed, hreply⟩, settle_partReset]
    rfl
  · exact congrArg Host.Outcome.next
      (settle_withLnk (l := { s.lnk with receiver := .hunt, broken := true }) h rfl rfl rfl rfl rfl)

/-! ### The transmitter (R151, R166, R176) -/

/-- LNK after the last byte of a frame that brings no part reset: idle, and at the rate of a SET_LINK reply (R151). -/
def Lnk.transmitted (l : Lnk) : TxEffect → Lnk
  | .setRate c => { l with rate := c, receiver := .hunt, sending := none }
  | .none | .partReset => { l with sending := none }

section

variable (l : Lnk) (e : TxEffect)

@[simp] theorem transmitted_sending : (l.transmitted e).sending = none := by cases e <;> rfl
@[simp] theorem transmitted_notice : (l.transmitted e).notice = l.notice := by cases e <;> rfl
@[simp] theorem transmitted_replies : (l.transmitted e).replies = l.replies := by cases e <;> rfl
@[simp] theorem transmitted_hold : (l.transmitted e).hold = l.hold := by cases e <;> rfl
@[simp] theorem transmitted_received : (l.transmitted e).received = l.received := by cases e <;> rfl

end

theorem arbitrate_notice {s : State} {n : Notice} (hs : s.lnk.sending = none) (hn : s.lnk.notice = some n) :
    arbitrate s = s.withLnk { s.lnk with notice := none, sending := some ⟨0xE0, 0, n.payload, .none⟩ } := by
  unfold arbitrate
  rw [if_neg (by rw [hs]; decide), hn]
  rfl

theorem arbitrate_report {s : State} {e : ReportEntry} (hs : s.lnk.sending = none) (hn : s.lnk.notice = none)
    (hr : s.lnk.replies = []) (he : s.rpt.offered = some e) :
    arbitrate s =
      { s with lnk := { s.lnk with sending := some ⟨e.body.kindCode, 0, e.payload, .none⟩ }, rpt := s.rpt.begun } := by
  unfold arbitrate
  rw [if_neg (by rw [hs]; decide), hn, hr, he]
  rfl

/-- RPT offers the oldest entry that is not sent, and its transmission marks that entry (R176). -/
theorem offered_oldest {r : Rpt} {old rest : List ReportEntry} {e : ReportEntry} (hq : r.queue = old ++ e :: rest)
    (hold : ∀ x ∈ old, x.sent = true) (he : e.sent = false) (hw : r.sentCount < r.window) : r.offered = some e := by
  have hpast : old.find? (fun x => !x.sent) = none := List.find?_eq_none.mpr fun x hx => by simp [hold x hx]
  unfold Rpt.offered
  rw [if_pos hw, hq, List.find?_append, hpast, Option.none_or, List.find?_cons_of_pos (by simp [he])]

theorem modifyFirst_append {α : Type} {p : α → Bool} {f : α → α} {old rest : List α} {a : α} (hold : ∀ x ∈ old, p x = false)
    (ha : p a = true) : modifyFirst p f (old ++ a :: rest) = old ++ f a :: rest := by
  induction old with
  | nil => exact if_pos ha
  | cons b old ih =>
    have hb : ¬ p b = true := by simp [hold b]
    rw [List.cons_append, modifyFirst, if_neg hb, ih fun x hx => hold x (List.mem_cons_of_mem b hx)]
    rfl

theorem begun_oldest {r : Rpt} {old rest : List ReportEntry} {e : ReportEntry} (hq : r.queue = old ++ e :: rest)
    (hold : ∀ x ∈ old, x.sent = true) (he : e.sent = false) :
    r.begun = { r with queue := old ++ { e with sent := true, onceSent := true } :: rest } := by
  unfold Rpt.begun
  rw [hq, modifyFirst_append (fun x hx => by simp [hold x hx]) (by simp [he])]

theorem offered_none {r : Rpt} (h : r.window ≤ r.sentCount ∨ ∀ x ∈ r.queue, x.sent = true) : r.offered = none := by
  unfold Rpt.offered
  rcases h with hw | hall
  · exact if_neg (not_lt.mpr hw)
  · have hfind : r.queue.find? (fun x => !x.sent) = none := List.find?_eq_none.mpr fun x hx => by simp [hall x hx]
    rw [hfind, ite_self]

section

variable {s : State} {tx : Transmission} (hs : s.lnk.sending = some tx)

include hs

theorem exec_frameTransmitEnd_resets (he : tx.effect = .partReset) :
    exec .frameTransmitEnd s = .next (partReset (s.withLnk { s.lnk with sending := none })) := by
  have hend : endTransmission s = partReset (s.withLnk { s.lnk with sending := none }) := by
    unfold endTransmission
    rw [hs]
    dsimp only
    rw [he]
    rfl
  show Host.Outcome.next (settle (endTransmission s)) = _
  rw [hend, settle_partReset]

variable (he : tx.effect ≠ .partReset)

include he

theorem endTransmission_eq : endTransmission s = s.withLnk (s.lnk.transmitted tx.effect) := by
  unfold endTransmission
  rw [hs]
  dsimp only
  cases heffect : tx.effect with
  | partReset => exact absurd heffect he
  | none | setRate => rfl

/-- The waiting frames are those of before, taken from where the event ends (R157). -/
theorem exec_frameTransmitEnd {t : State} (ht : endEvent (s.withLnk (s.lnk.transmitted tx.effect)) = t) :
    exec .frameTransmitEnd s = .next (takeFrames s.lnk.received.length t) := by
  have hreceived : (s.withLnk (s.lnk.transmitted tx.effect)).lnk.received = s.lnk.received := transmitted_received _ _
  show Host.Outcome.next (settle (endTransmission s)) = _
  rw [endTransmission_eq hs he, settle_of_endEvent ht, hreceived]

variable (h : Settled s)

include h

/-- The notice, a reply, or nothing: what begins comes from LNK alone. -/
theorem exec_frameTransmitEnd_link {m : Lnk}
    (ha : arbitrate (s.withLnk (s.lnk.transmitted tx.effect)) = s.withLnk m) (hm : m.hold = s.lnk.hold) :
    exec .frameTransmitEnd s = .next (takeFrames s.lnk.received.length (s.withLnk m)) :=
  exec_frameTransmitEnd hs he (endEvent_arbitrates_link h ha hm)

end

/-- Settles O42: the transmitter is idle again, and the arbiter's choice among the notice, the replies and the offered report
begins; the latch does not compare. -/
theorem transmitEndBeginsTheNextFrame : Obligations.TransmitEndBeginsTheNextFrame := by
  intro s tx hs h l andTakes
  have hl : l = s.lnk.transmitted tx.effect := by
    dsimp only [l]
    cases tx.effect <;> rfl
  have hsending : l.sending = none := by rw [hl, transmitted_sending]
  have hnotice : l.notice = s.lnk.notice := by rw [hl, transmitted_notice]
  have hreplies : l.replies = s.lnk.replies := by rw [hl, transmitted_replies]
  have hhold : l.hold = s.lnk.hold := by rw [hl, transmitted_hold]
  refine ⟨fun n hn he => ?_, fun r rs hr hn he => ?_, fun old rest e hq he hn hr hold hsent hw => ?_,
    fun he hn hr hnone => ?_, fun he => ?_⟩
  · refine exec_frameTransmitEnd_link hs he h ?_ hhold
    rw [← hl]
    exact arbitrate_notice hsending (hnotice.trans hn)
  · refine exec_frameTransmitEnd_link hs he h ?_ hhold
    rw [← hl]
    exact arbitrate_reply hsending (hnotice.trans hn) (hreplies.trans hr)
  · refine exec_frameTransmitEnd hs he (endEvent_arbitrates h.1 ?_)
    rw [← hl, arbitrate_report (s := s.withLnk l) hsending (hnotice.trans hn) (hreplies.trans hr)
      (offered_oldest hq hold hsent hw), withLnk_rpt, begun_oldest hq hold hsent]
    rfl
  · refine exec_frameTransmitEnd_link hs he h ?_ hhold
    rw [← hl]
    exact arbitrate_nothing fun _ => ⟨hnotice.trans hn, hreplies.trans hr, offered_none hnone⟩
  · rw [exec_frameTransmitEnd_resets hs he]
    rfl

end Sys2Proof.Machine

end

/-! ## Proofs: O52 and O58, how every row leaves the link (R156, R157, R160, R166, R182, R185)

Every row ends in an `endEvent`, which settles the part whatever came before it: that is O52. For O58, `QueuesNothing` says of an
operation that neither queue grows and no command comes into execution. It holds of all but the arrival of a frame, the answers, and the
beginning of a command that takes time, and for these `KeepsQueueForm` is shown directly. -/

section

namespace Sys2Proof.Machine

open Sys2Proof

/-! ### The end of an event settles the part (R166, R182, R185) -/

theorem arbitrate_latchDue (s : State) : (arbitrate s).rpt.latchDue = s.rpt.latchDue := by
  unfold arbitrate
  split
  · rfl
  · split <;> rfl

/-- The arbiter leaves the transmitter idle only where nothing is available (R166). -/
theorem arbitrate_idle (s : State) (h : (arbitrate s).lnk.sending = none) :
    (arbitrate s).lnk.notice = none ∧ (arbitrate s).lnk.replies = [] ∧ (arbitrate s).rpt.offered = none := by
  unfold arbitrate at h ⊢
  split at h
  next hbusy =>
    rw [h] at hbusy
    cases hbusy
  next hidle =>
    rw [if_neg hidle]
    split at h
    · cases h
    · cases h
    · cases h
    next hnotice hreplies hoffered => exact ⟨hnotice, hreplies, hoffered⟩

theorem endEvent_settled (s : State) : Settled (endEvent s) :=
  ⟨(arbitrate_latchDue _).trans (latch_latchDue s), arbitrate_idle (latch s), rfl⟩

theorem takeFrames_settled (k : Nat) : ∀ {s : State}, Settled s → Settled (takeFrames k s) := by
  induction k with
  | zero => exact fun h => h
  | succ k ih =>
    intro s h
    unfold takeFrames
    split
    · split
      · exact ih (endEvent_settled _)
      · exact h
    · exact h

theorem settle_settled (s : State) : Settled (settle s) := takeFrames_settled _ (endEvent_settled s)

theorem attentionDue_iff {s : State} : s.attentionDue = true ↔ s.lnk.hold = true ∨ s.lcu.line = .halted
    ∨ ((∃ e ∈ s.rpt.queue, e.sent = false) ∧ s.rpt.window ≤ (s.rpt.queue.filter fun e => e.sent).length) := by
  simp [State.attentionDue, or_assoc]
  exact Iff.rfl

/-! ### The relations -/

/-- The commands that wait stand, neither queue of the link grows, and no command comes into execution. -/
structure QueuesNothing (s t : State) : Prop where
  pending : t.pending = s.pending
  received : t.lnk.received.length ≤ s.lnk.received.length
  replies : t.lnk.replies.length ≤ s.lnk.replies.length
  executing : t.cmd.executing = true → s.cmd.executing = true

/-- The commands that wait stand, and the bounds of the link's queues are kept. -/
structure KeepsQueueForm (s t : State) : Prop where
  pending : t.pending = s.pending
  form : LinkQueuesInv s → LinkQueuesInv t

theorem QueuesNothing.refl (s : State) : QueuesNothing s s := ⟨rfl, le_rfl, le_rfl, fun h => h⟩

theorem QueuesNothing.trans {a b c : State} (h : QueuesNothing a b) (k : QueuesNothing b c) : QueuesNothing a c :=
  ⟨k.pending.trans h.pending, k.received.trans h.received, k.replies.trans h.replies, fun hc => h.executing (k.executing hc)⟩

/-- An event that changes neither the waiting commands nor LNK nor CMD. -/
theorem QueuesNothing.of_same {s t : State} (hp : t.pending = s.pending) (hl : t.lnk = s.lnk) (hc : t.cmd = s.cmd) :
    QueuesNothing s t :=
  ⟨hp, by rw [hl], by rw [hl], by rw [hc]; exact fun h => h⟩

theorem QueuesNothing.of_tracking {s t : State} (h : KeepsBeyondTracking s t) : QueuesNothing s t :=
  .of_same h.pending h.lnk h.cmd

theorem QueuesNothing.of_reports {s t : State} (h : KeepsBeyondReports s t) : QueuesNothing s t :=
  .of_tracking h.toKeepsBeyondTracking

theorem QueuesNothing.of_detects {s t : State} (h : OnlyDetects s t) : QueuesNothing s t :=
  have ⟨hpending, _, _, hlnk, hcmd, _⟩ := h.rest
  .of_same hpending hlnk hcmd

theorem QueuesNothing.form {s t : State} (h : QueuesNothing s t) : KeepsQueueForm s t where
  pending := h.pending
  form := fun ⟨hreceived, hreplies, hroom⟩ =>
    ⟨h.received.trans hreceived, h.replies.trans hreplies, fun hc => h.replies.trans_lt (hroom (h.executing hc))⟩

theorem KeepsQueueForm.trans {a b c : State} (h : KeepsQueueForm a b) (k : KeepsQueueForm b c) : KeepsQueueForm a c :=
  ⟨k.pending.trans h.pending, fun ha => k.form (h.form ha)⟩

/-! ### DET and the timers of OUT -/

theorem reachTime_queuesNothing (t : Nat) (s : State) : QueuesNothing s (reachTime t s) := .of_same rfl rfl rfl

theorem sampleDetector_queuesNothing (n : LaneId) (level : Bool) (s : State) : QueuesNothing s (sampleDetector n level s) := by
  have hpins : QueuesNothing s { s with pins := { s.pins with det := s.pins.det.set n level } } := .of_same rfl rfl rfl
  unfold sampleDetector
  dsimp only
  split
  · exact hpins.trans (.of_detects (judgeSample_detects n level _))
  · exact hpins

theorem debounceExpiry_queuesNothing (n : LaneId) (s : State) : QueuesNothing s (debounceExpiry n s) := by
  unfold debounceExpiry
  split
  · exact .refl s
  · exact (reachTime_queuesNothing _ s).trans (.of_detects (acceptEdge_detects n _ _))

theorem endTimeExpiry_queuesNothing (n : OutputId) (s : State) : QueuesNothing s (endTimeExpiry n s) := by
  unfold endTimeExpiry
  split
  · exact .refl s
  · exact (reachTime_queuesNothing _ s).trans (.of_tracking (endIfMet_keeps n _))

theorem maxOnExpiry_queuesNothing (n : OutputId) (s : State) : QueuesNothing s (maxOnExpiry n s) := by
  unfold maxOnExpiry
  split
  · exact .refl s
  · exact (reachTime_queuesNothing _ s).trans (.of_tracking (endPulse_keeps n true _))

theorem recoveryExpiry_queuesNothing (n : OutputId) (s : State) : QueuesNothing s (recoveryExpiry n s) := by
  unfold recoveryExpiry
  split
  · exact .refl s
  · exact .of_same rfl rfl rfl

/-! ### TRK -/

theorem takeRequest_queuesNothing (n : LaneId) (s : State) : QueuesNothing s (takeRequest n s) := by
  have htaken (r : CreationRequest) : QueuesNothing s { s with requests := s.requests.erase r } := .of_same rfl rfl rfl
  unfold takeRequest
  split
  · exact .refl s
  · exact (htaken _).trans (.of_tracking (takeCreation_keeps _ _))

/-- A pair is TRK's alone (R34). -/
theorem takePair_trk (t : Tag) (b : Byte) (s : State) : (takePair t b s).1 = { s with trk := (takePair t b s).1.trk } := by
  unfold takePair
  split
  · rfl
  · split
    · rfl
    · split
      · rfl
      · dsimp only
        split <;> rfl

theorem takePair_cmd (t : Tag) (b : Byte) (s : State) : (takePair t b s).1.cmd = s.cmd := by rw [takePair_trk]

theorem takePair_queuesNothing (t : Tag) (b : Byte) (s : State) : QueuesNothing s (takePair t b s).1 := by
  rw [takePair_trk]
  exact .of_same rfl rfl rfl

/-! ### MOT -/

theorem setDebt_queuesNothing (d : Nat) (s : State) : QueuesNothing s (setDebt d s) := by
  rw [setDebt_eq]
  exact .of_same rfl rfl rfl

theorem markMoving_advancePosition_queuesNothing (s : State) : QueuesNothing s (markMoving (advancePosition s)) := by
  have hadvance : QueuesNothing s (advancePosition s) := by
    unfold advancePosition
    split <;> exact .of_same rfl rfl rfl
  rw [markMoving_eq]
  exact hadvance.trans (.of_same rfl rfl rfl)

theorem forwardCount_queuesNothing (o : TickOrder) (s : State) : QueuesNothing s (forwardCount o s) := by
  obtain ⟨hdetects, htracking⟩ := forwardTick_parts o s
  rcases Nat.eq_zero_or_pos s.mot.debt with h | h
  · rw [forwardCount_ticks o h]
    exact ((markMoving_advancePosition_queuesNothing s).trans (.of_detects hdetects)).trans (.of_tracking htracking)
  · rw [forwardCount_repays o h]
    exact .of_same rfl rfl rfl

theorem reverseCount_queuesNothing (s : State) : QueuesNothing s (reverseCount s) := by
  have hdebt := setDebt_queuesNothing (s.mot.debt + 1) s
  unfold reverseCount
  dsimp only
  split
  · exact .refl s
  · split
    · exact (hdebt.trans (.of_reports (passFault_keeps _ _))).trans (.of_tracking (haltLine_keeps _ _))
    · exact hdebt

theorem encoderSample_queuesNothing (x : Bool × Bool) (o : TickOrder) (s : State) : QueuesNothing s (encoderSample x o s) := by
  have hpins : QueuesNothing s { s with pins := { s.pins with encA := x.1, encB := x.2 } } := .of_same rfl rfl rfl
  have hsample : QueuesNothing s (mapMot (fun m => { m with reference := x })
      { s with pins := { s.pins with encA := x.1, encB := x.2 } }) := .of_same rfl rfl rfl
  unfold encoderSample
  dsimp only
  split
  · split
    · exact hpins
    · split
      · rw [illegalTransition_eq]
        exact hsample.trans (.of_same rfl rfl rfl)
      · split
        · exact hsample.trans (forwardCount_queuesNothing o _)
        · exact hsample.trans (reverseCount_queuesNothing _)
  · exact hpins

theorem paceOverflow_queuesNothing (o : TickOrder) (s : State) : QueuesNothing s (paceOverflow o s) := by
  have hpace (f : Mot → Mot) : QueuesNothing s (mapMot f s) := .of_same rfl rfl rfl
  unfold paceOverflow
  dsimp only
  split
  · split
    · exact (hpace _).trans (forwardCount_queuesNothing o _)
    · exact ((hpace _).trans (reachTime_queuesNothing _ _)).trans (forwardCount_queuesNothing o _)
  · exact .refl s

theorem makeAdvanceCount_queuesNothing (o : TickOrder) (s : State) : QueuesNothing s (makeAdvanceCount o s) := by
  unfold makeAdvanceCount
  split
  next hc =>
    refine QueuesNothing.trans ?_ (forwardCount_queuesNothing o _)
    exact ⟨rfl, le_rfl, le_rfl, fun _ => by rw [hc]; rfl⟩
  · exact .refl s

theorem standstillExpiry_queuesNothing (s : State) : QueuesNothing s (standstillExpiry s) := by
  unfold standstillExpiry
  split
  · exact .refl s
  · dsimp only
    split <;> exact .of_same rfl rfl rfl

/-! ### Commands -/

theorem setLine_queuesNothing (l : LineState) (s : State) : QueuesNothing s (setLine l s) := .of_tracking (setLine_keeps l s)

theorem commandStart_queuesNothing (s : State) : QueuesNothing s (commandStart s).1 := by
  have hpatterns (u : State) (k : Trk) : QueuesNothing u { u with trk := k } := .of_same rfl rfl rfl
  unfold commandStart
  split
  · exact .refl s
  · split
    · exact .refl s
    · exact ((setLine_queuesNothing .run s).trans (hpatterns _ _)).trans (setDebt_queuesNothing 0 _)

theorem commandStop_queuesNothing (s : State) : QueuesNothing s (commandStop s).1 := by
  unfold commandStop
  split
  · exact setLine_queuesNothing _ s
  · exact .refl s
  · exact setLine_queuesNothing _ s
  · exact .refl s

theorem commandHalt_queuesNothing (s : State) : QueuesNothing s (commandHalt s).1 := by
  unfold commandHalt
  split
  · exact .of_tracking (haltLine_keeps _ s)
  · exact .of_tracking (haltLine_keeps _ s)
  · exact .refl s
  · exact .refl s

theorem commandAbort_queuesNothing (s : State) : QueuesNothing s (commandAbort s).1 := by
  unfold commandAbort
  split
  · exact .refl s
  all_goals exact .of_tracking ((setLine_keeps _ s).trans (purgeItems_keeps _ _ _))

theorem commandResume_queuesNothing (s : State) : QueuesNothing s (commandResume s).1 := by
  unfold commandResume
  split
  · exact (setLine_queuesNothing _ s).trans (setDebt_queuesNothing 0 _)
  all_goals exact .refl s

theorem commandPurge_queuesNothing (p : List Byte) (s : State) : QueuesNothing s (commandPurge p s).1 := by
  unfold commandPurge
  split
  · exact .refl s
  · split
    · exact .of_tracking (purgeItems_keeps _ _ s)
    · exact .of_tracking (purgeItems_keeps _ _ s)
    · exact .refl s
    · exact .refl s

theorem commandForceOutput_queuesNothing (p : List Byte) (s : State) : QueuesNothing s (commandForceOutput p s).1 := by
  have hforce (n : OutputId) (a : ForceAction) : QueuesNothing s (forceByState n a s).1 := by
    unfold forceByState
    split <;> exact .of_same rfl rfl rfl
  unfold commandForceOutput
  split
  · split
    · exact .refl s
    · exact hforce _ _
  · exact .refl s

/-- The link's counters are cleared beside its queues. -/
theorem commandGetCounters_queuesNothing (p : List Byte) (s : State) : QueuesNothing s (commandGetCounters p s).1 := by
  have hclear (g : CounterGroup) : QueuesNothing s (clearCounters g s) := by
    cases g <;> exact ⟨rfl, le_rfl, le_rfl, fun h => h⟩
  unfold commandGetCounters
  split
  · dsimp only
    split
    · exact hclear _
    · exact .refl s
  · exact .refl s

theorem commandReportAck_queuesNothing (p : List Byte) (s : State) : QueuesNothing s (commandReportAck p s).1 := by
  have hstatus (b : Bool) (r : Rpt) : QueuesNothing s (if b then { s with rpt := r } else passStatus { s with rpt := r }) := by
    cases b <;> exact .of_same rfl rfl rfl
  have hclear (u : State) : QueuesNothing u (clearEncoderError u) := by
    unfold clearEncoderError
    split <;> exact .of_same rfl rfl rfl
  have hacknowledge (n : BitVec 16) (w : Nat) : QueuesNothing s (acknowledge n w s) := by
    unfold acknowledge
    dsimp only
    split
    · exact (hstatus _ _).trans (hclear _)
    · exact hstatus _ _
  unfold commandReportAck
  dsimp only
  split
  · exact .refl s
  · split
    · exact hacknowledge _ _
    · exact .refl s

theorem commandApply_queuesNothing (s : State) : QueuesNothing s (commandApply s).1 := by
  have hkeeps := outputsApplied_keeps s
  rw [motionAndLanesApplied_eq] at hkeeps
  unfold commandApply
  split
  · exact .refl s
  · rw [applyStaged_eq]
    exact .of_same hkeeps.pending hkeeps.lnk hkeeps.cmd

/-- The owner of a command leaves the queues to CMD; RESET_PART closes CMD, and none brings it into execution (R157). -/
theorem instantCommand_queuesNothing (k : Kind) (p : List Byte) (s : State) :
    ∀ x ∈ instantCommand k p s, QueuesNothing s x.1 := by
  rintro x hx
  have stages (c : Option (Configuration → Configuration)) : QueuesNothing s (stage c s).1 := by
    cases c <;> exact .of_same rfl rfl rfl
  cases k
  case verdict => cases hx
  case advance =>
    obtain ⟨r, -, rfl⟩ := Option.map_eq_some_iff.mp hx
    exact .refl s
  case resetPart =>
    cases hx
    exact ⟨rfl, le_rfl, le_rfl, fun h => nomatch h⟩
  case linkResume =>
    cases hx
    exact ⟨rfl, le_rfl, le_rfl, fun h => h⟩
  case setLink => cases hx; unfold commandSetLink; split <;> exact .refl s
  case readConfig => cases hx; unfold commandReadConfig; split <;> exact .refl s
  case readItem =>
    cases hx
    unfold commandReadItem
    dsimp only
    split
    · exact .refl s
    · split <;> exact .refl s
  case listItems => cases hx; unfold commandListItems; split <;> exact .refl s
  case getCounters => cases hx; exact commandGetCounters_queuesNothing p s
  case reportAck => cases hx; exact commandReportAck_queuesNothing p s
  case start => cases hx; exact commandStart_queuesNothing s
  case stop => cases hx; exact commandStop_queuesNothing s
  case halt => cases hx; exact commandHalt_queuesNothing s
  case abort => cases hx; exact commandAbort_queuesNothing s
  case resume => cases hx; exact commandResume_queuesNothing s
  case purge => cases hx; exact commandPurge_queuesNothing p s
  case setMotion | setLane | setStation | setOutput | setReporting => cases hx; exact stages _
  case apply => cases hx; exact commandApply_queuesNothing s
  case forceOutput => cases hx; exact commandForceOutput_queuesNothing p s
  case identify | getStatus | replay | revert => cases hx; exact .of_same rfl rfl rfl

/-! ### LNK -/

/-- A change of LNK that keeps its two queues. -/
theorem mapLnk_queuesNothing {f : Lnk → Lnk} (s : State) (hv : (f s.lnk).received = s.lnk.received)
    (hr : (f s.lnk).replies = s.lnk.replies) : QueuesNothing s (mapLnk f s) :=
  ⟨rfl, (congrArg List.length hv).le, (congrArg List.length hr).le, fun h => h⟩

theorem frameError_queuesNothing (cause : LinkError) (s : State) : QueuesNothing s (frameError cause s) := by
  unfold frameError
  dsimp only
  split <;> exact ⟨rfl, le_rfl, le_rfl, fun h => h⟩

theorem partReset_queuesNothing (s : State) : QueuesNothing s (partReset s) :=
  ⟨rfl, Nat.zero_le _, Nat.zero_le _, fun h => nomatch h⟩

theorem discarded_executing (c : Cmd) : c.discarded.executing = c.executing := by cases c <;> rfl

theorem linkReset_queuesNothing (s : State) : QueuesNothing s (linkReset s) := by
  unfold linkReset
  dsimp only
  split
  · exact ⟨rfl, Nat.zero_le _, Nat.zero_le _, fun h => nomatch h⟩
  · exact ⟨rfl, Nat.zero_le _, Nat.zero_le _, fun h => (discarded_executing s.cmd).symm.trans h⟩

theorem endTransmission_queuesNothing (s : State) : QueuesNothing s (endTransmission s) := by
  have hidle : QueuesNothing s (mapLnk (fun l => { l with sending := none }) s) := mapLnk_queuesNothing s rfl rfl
  unfold endTransmission transmitEffect
  split
  · exact .refl s
  · split
    · exact hidle
    · exact hidle.trans (mapLnk_queuesNothing _ rfl rfl)
    · exact hidle.trans (partReset_queuesNothing _)

theorem gapExpiry_queuesNothing (s : State) : QueuesNothing s (gapExpiry s) := by
  unfold gapExpiry
  split
  · exact .refl s
  all_goals
    split
    · exact .refl s
    · exact frameError_queuesNothing _ s

theorem takeFramingError_queuesNothing (s : State) : QueuesNothing s (takeFramingError s) := by
  unfold takeFramingError
  split
  · exact mapLnk_queuesNothing s rfl rfl
  all_goals exact frameError_queuesNothing _ s

/-- A frame joins the receive queue only where it has room (R156). -/
theorem offerFrame_keepsQueueForm (f : Frame) (s : State) : KeepsQueueForm s (offerFrame f s) := by
  unfold offerFrame
  split
  next hroom =>
    refine ⟨rfl, fun ⟨_, hreplies, hexecuting⟩ => ⟨?_, hreplies, hexecuting⟩⟩
    show (s.lnk.received ++ [f]).length ≤ 4
    rw [List.length_append]
    exact hroom
  · exact (frameError_queuesNothing _ s).form

theorem takeCharacter_keepsQueueForm (v : Byte) (s : State) : KeepsQueueForm s (takeCharacter v s) := by
  have hreceiver (f : Lnk → Receiver) : QueuesNothing s (mapLnk (fun l => { l with receiver := f l }) s) :=
    mapLnk_queuesNothing s rfl rfl
  unfold takeCharacter
  split
  · split
    · exact (hreceiver _).form
    · exact (mapLnk_queuesNothing s rfl rfl).form
  · split
    · exact (hreceiver _).form
    · exact (frameError_queuesNothing _ s).form
  · exact (hreceiver _).form
  · exact (hreceiver _).form
  · unfold judgeFrame
    split
    · exact (hreceiver _).form.trans (offerFrame_keepsQueueForm _ _)
    · exact (frameError_queuesNothing _ s).form

/-! ### The end of an event -/

theorem arbitrate_replies (s : State) : (arbitrate s).lnk.replies.length ≤ s.lnk.replies.length := by
  unfold arbitrate
  split
  · exact le_rfl
  · split
    · exact le_rfl
    next hr =>
      rw [hr]
      exact Nat.le_succ _
    · exact le_rfl
    · exact le_rfl

theorem endEvent_queuesNothing (s : State) : QueuesNothing s (endEvent s) := by
  obtain ⟨hpending, -, -, -, -, -, -, -, -, hcmd, -, hreceived⟩ := endEvent_keeps s
  refine ⟨hpending, by rw [hreceived], ?_, by rw [hcmd]; exact fun h => h⟩
  have hlatch : (latch s).lnk = s.lnk := (latch_keeps s).lnk
  rw [← hlatch]
  exact arbitrate_replies (latch s)

/-! ### CMD: a reply joins the queue where it has room (R157, R160) -/

/-- A reply is queued where the reply queue has room and no command is left in execution behind it. -/
theorem queueReply_keepsQueueForm {s : State} (r : Reply) (hr : s.lnk.replies.length < 4) (hc : s.cmd.executing = false) :
    KeepsQueueForm s (queueReply r s) where
  pending := rfl
  form := fun ⟨hreceived, _, _⟩ => by
    refine ⟨hreceived, ?_, fun h => absurd (hc.symm.trans h) (by decide)⟩
    rw [queueReply_lnk, List.length_append]
    exact hr

theorem answerTaken_keepsQueueForm {s : State} (kind seq : Byte) (crc : BitVec 16) (a : Answer)
    (hr : s.lnk.replies.length < 4) (hc : s.cmd.executing = false) : KeepsQueueForm s (answerTaken kind seq crc a s) :=
  (queueReply_keepsQueueForm _ hr hc).trans (mapLnk_queuesNothing _ rfl rfl).form

/-- A command in execution has room for its reply, and with it leaves execution (R157). -/
theorem finishTaken_keepsQueueForm (c : Taken) (a : Answer) {s : State} (hc : s.cmd.executing = true) :
    KeepsQueueForm s (finishTaken c a s) := by
  have hidle : QueuesNothing s { s with cmd := .idle } := ⟨rfl, le_rfl, le_rfl, fun h => nomatch h⟩
  unfold finishTaken
  dsimp only
  split
  · exact hidle.form
  · refine ⟨rfl, fun hs => ?_⟩
    have ⟨_, _, hroom⟩ := hs
    exact (answerTaken_keepsQueueForm (s := { s with cmd := .idle }) _ _ _ a (hroom hc) rfl).form (hidle.form.form hs)

theorem takeNextPair_keepsQueueForm (s : State) : KeepsQueueForm s (takeNextPair s) := by
  unfold takeNextPair
  split
  next c t b left results hc =>
    have hpair := takePair_queuesNothing t b s
    have hexecuting : s.cmd.executing = true := by
      rw [hc]
      rfl
    dsimp only
    split
    · exact hpair.form.trans (finishTaken_keepsQueueForm _ _ (by rw [takePair_cmd]; exact hexecuting))
    · exact QueuesNothing.form ⟨hpair.pending, hpair.received, hpair.replies, fun _ => hexecuting⟩
  · exact (QueuesNothing.refl s).form

theorem endAdvance_keepsQueueForm (s : State) : KeepsQueueForm s (endAdvance s) := by
  unfold endAdvance
  split
  next hc => exact finishTaken_keepsQueueForm _ _ (by rw [hc]; rfl)
  · exact (QueuesNothing.refl s).form

/-- A command that begins leaves the reply queue the room it was taken with (R157). -/
theorem beginCommand_keepsQueueForm (k : Kind) (f : Frame) {s : State} (hr : s.lnk.replies.length < 4) :
    KeepsQueueForm s (beginCommand k f s) := by
  cases k <;> exact ⟨rfl, fun ⟨hreceived, hreplies, _⟩ => ⟨hreceived, hreplies, fun _ => hr⟩⟩

section

variable {s : State} (f : Frame) (hr : s.lnk.replies.length < 4) (hc : s.cmd = .idle)

include hr hc

theorem executeCommand_keepsQueueForm (k : Kind) : KeepsQueueForm s (executeCommand k f s) := by
  unfold executeCommand
  split
  next hx =>
    have howner := instantCommand_queuesNothing _ _ s _ hx
    have hexecuting := howner.executing
    rw [hc] at hexecuting
    exact howner.form.trans
      (answerTaken_keepsQueueForm _ _ _ _ (howner.replies.trans_lt hr) (Bool.eq_false_iff.mpr fun h => nomatch hexecuting h))
  · exact beginCommand_keepsQueueForm k f hr

theorem takeCommand_keepsQueueForm : KeepsQueueForm s (takeCommand f s) := by
  have htaken : QueuesNothing s (mapLnk (fun l => { l with lastTaken := some f.seq }) s) := mapLnk_queuesNothing s rfl rfl
  have hidle : (mapLnk (fun l => { l with lastTaken := some f.seq }) s).cmd.executing = false := by
    rw [mapLnk_cmd, hc]
    rfl
  unfold takeCommand
  dsimp only
  split
  · exact htaken.form.trans (answerTaken_keepsQueueForm _ _ _ _ hr hidle)
  · split
    · exact htaken.form.trans (executeCommand_keepsQueueForm f (by exact hr) (by exact hc) _)
    · exact htaken.form.trans (answerTaken_keepsQueueForm _ _ _ _ hr hidle)

/-- Whatever R158 makes of a frame taken by an idle CMD, it queues at most one reply or begins one command. -/
theorem judgeTaken_keepsQueueForm : KeepsQueueForm s (judgeTaken f s) := by
  have replies {u : State} (r : Reply) (hu : QueuesNothing s u) (hcmd : u.cmd = s.cmd) : KeepsQueueForm s (queueReply r u) :=
    hu.form.trans (queueReply_keepsQueueForm r (hu.replies.trans_lt hr) (by rw [hcmd, hc]; rfl))
  unfold judgeTaken
  split
  · exact replies _ ⟨rfl, le_rfl, le_rfl, fun h => h⟩ rfl
  · split
    · unfold takeLinkResume
      split
      · exact replies (u := (commandLinkResume s).1) _ ⟨rfl, le_rfl, le_rfl, fun h => h⟩ rfl
      · exact replies _ (.refl s) rfl
    · split
      · exact replies _ (mapLnk_queuesNothing s rfl rfl) rfl
      · exact takeCommand_keepsQueueForm f hr hc

end

theorem takeFrames_keepsQueueForm (k : Nat) : ∀ s, KeepsQueueForm s (takeFrames k s) := by
  induction k with
  | zero => exact fun s => (QueuesNothing.refl s).form
  | succ k ih =>
    intro s
    unfold takeFrames
    split
    next f fs hc hv =>
      split
      next hr =>
        have htaken : QueuesNothing s (mapLnk (fun l => { l with received := fs }) s) := by
          refine ⟨rfl, ?_, le_rfl, fun h => h⟩
          rw [hv]
          exact Nat.le_succ _
        exact ((htaken.form.trans (judgeTaken_keepsQueueForm f hr hc)).trans (endEvent_queuesNothing _).form).trans (ih _)
      · exact (QueuesNothing.refl s).form
    · exact (QueuesNothing.refl s).form

theorem settle_keepsQueueForm (s : State) : KeepsQueueForm s (settle s) :=
  (endEvent_queuesNothing s).form.trans (takeFrames_keepsQueueForm _ _)

/-! ### Rows -/

theorem rowEvent_keepsQueueForm (c : Instr) (s : State) : KeepsQueueForm s (rowEvent c s) := by
  unfold rowEvent
  split
  · exact offerFrame_keepsQueueForm _ s
  · split
    · exact takeNextPair_keepsQueueForm s
    · exact (makeAdvanceCount_queuesNothing _ s).form
    · exact endAdvance_keepsQueueForm s
    · exact QueuesNothing.form ⟨rfl, Nat.zero_le _, Nat.zero_le _, fun h => nomatch h⟩
    · split
      · exact (QueuesNothing.refl s).form
      · split
        · exact (takeFramingError_queuesNothing s).form
        · exact takeCharacter_keepsQueueForm _ s
    · exact (gapExpiry_queuesNothing s).form
    · exact (mapLnk_queuesNothing s rfl rfl).form
    · exact (mapLnk_queuesNothing s rfl rfl).form.trans (linkReset_queuesNothing _).form
    · exact (endTransmission_queuesNothing s).form
    · exact (encoderSample_queuesNothing _ _ s).form
    · exact (paceOverflow_queuesNothing _ s).form
    · exact (standstillExpiry_queuesNothing s).form
    · exact (sampleDetector_queuesNothing _ _ s).form
    · exact (sampleDetector_queuesNothing _ _ s).form
    · exact (debounceExpiry_queuesNothing _ s).form
    · exact (takeRequest_queuesNothing _ s).form
    · exact (endTimeExpiry_queuesNothing _ s).form
    · exact (maxOnExpiry_queuesNothing _ s).form
    · exact (recoveryExpiry_queuesNothing _ s).form
    · exact (QueuesNothing.refl s).form

theorem settle_rowEvent_keepsQueueForm (c : Instr) (s : State) : KeepsQueueForm s (settle (rowEvent c s)) :=
  (rowEvent_keepsQueueForm c s).trans (settle_keepsQueueForm _)

/-- Settles O52: every row ends in a settled part, and no block's event touches the commands that wait. -/
theorem everyCommandSettles : Obligations.EveryCommandSettles := by
  refine ⟨fun c s t ht => ?_, fun c s => ⟨_, exec_eq_settle c s, (settle_rowEvent_keepsQueueForm c s).pending⟩⟩
  rw [exec_eq_settle] at ht
  cases ht
  have ⟨hdue, hidle, hattention⟩ := settle_settled (rowEvent c s)
  exact ⟨⟨hdue, hidle, hattention⟩, by rw [hattention]; exact attentionDue_iff⟩

/-- Settles O58: a frame joins where the receive queue has room, and a reply where CMD took its command with room for it. -/
theorem linkQueueBoundsAreKept : Obligations.LinkQueueBoundsAreKept := by
  intro s t hs ht
  unfold step at ht
  split at ht
  · cases ht
    exact hs
  · rw [exec_eq_settle] at ht
    cases ht
    exact (settle_rowEvent_keepsQueueForm _ _).form hs

end Sys2Proof.Machine

end

/-! ## Proofs: O4 to O10, how CMD takes a frame, and the commands of LNK (R151, R154, R156 to R163, R167, R198, R200) -/

section

namespace Sys2Proof.Machine

open Sys2Proof

/-! ### LNK changed beside what a settled part is told by -/

section

variable {s : State} {l : Lnk}

theorem settled_withLnk (h : Settled s) (hs : l.sending = s.lnk.sending) (hn : l.notice = s.lnk.notice)
    (hr : l.replies = s.lnk.replies) (hh : l.hold = s.lnk.hold) : Settled (s.withLnk l) := by
  obtain ⟨hdue, hidle, hattention⟩ := h
  refine ⟨hdue, fun hsending => ?_, hattention.trans (attentionDue_withLnk hh).symm⟩
  rw [withLnk_lnk, hn, hr]
  exact hidle (hs.symm.trans hsending)

/-- A reply is queued, or begun at once, and the event ends there. -/
theorem endEvent_queueReply_withLnk (h : Settled s) (r : Reply) (hs : l.sending = s.lnk.sending)
    (hn : l.notice = s.lnk.notice) (hr : l.replies = s.lnk.replies) (hh : l.hold = s.lnk.hold) :
    endEvent (queueReply r (s.withLnk l)) = s.withLnk (l.withReply r) := by
  have hidle : l.sending = none → l.notice = none ∧ l.replies = [] := by
    rw [hs, hn, hr]
    exact fun hsending => ⟨(h.2.1 hsending).1, (h.2.1 hsending).2.1⟩
  rw [endEvent_queueReply (s := s.withLnk l) r hidle]
  exact concluded_of_settled h ((withReply_hold l r).trans hh)

end

/-! ### The order of R158 -/

section

variable {s : State} {f : Frame}

theorem judgeTaken_held (hh : s.lnk.hold = true) (hk : f.kind ≠ Kind.linkResume.code) : judgeTaken f s = answerHeld f s := by
  unfold judgeTaken
  rw [hh, bne_iff_ne.mpr hk]
  rfl

theorem judgeTaken_linkResume (hk : f.kind = Kind.linkResume.code) : judgeTaken f s = takeLinkResume f s := by
  have hnot : (f.kind != Kind.linkResume.code) = false := bne_eq_false_iff_eq.mpr hk
  unfold judgeTaken
  rw [hnot, Bool.and_false, if_neg Bool.false_ne_true, if_pos hk]

theorem judgeTaken_duplicate {e : CacheEntry} (hh : s.lnk.hold = false) (hk : f.kind ≠ Kind.linkResume.code)
    (he : s.lnk.duplicateOf f = some e) : judgeTaken f s = answerDuplicate e s := by
  unfold judgeTaken
  rw [hh, Bool.false_and, if_neg Bool.false_ne_true, if_neg hk, he]

end

/-! ### O4 -/

theorem duplicateOf_cached {l : Lnk} {k q : Byte} {p reply : List Byte} (h : l.cache = some ⟨q, frameCrc k q p, reply⟩) :
    l.duplicateOf (goodFrame k q p) = some ⟨q, frameCrc k q p, reply⟩ := by
  unfold Lnk.duplicateOf
  rw [h]
  exact Option.filter_some_pos (by simp)

/-- Settles O4: the frame is judged at its arrival, and its one answer is queued or begun. -/
theorem heldAndRepeatedFrames : Obligations.HeldAndRepeatedFrames := by
  refine ⟨fun s c k q p hc h hh hk => ?_, fun s c k q p hc h hh hk reply hcache => ?_⟩
  · have hheld : judgeTaken (goodFrame k q p) (s.withLnk s.lnk.counted) = answerHeld (goodFrame k q p) (s.withLnk s.lnk.counted) :=
      judgeTaken_held hh hk
    rw [exec_frame hc, receiveFrame_canTake h, hheld]
    exact congrArg Host.Outcome.next (endEvent_queueReply_withLnk h.1 ⟨q, [k, 0x16], .none⟩ rfl rfl rfl rfl)
  · have hduplicate : judgeTaken (goodFrame k q p) (s.withLnk s.lnk.counted)
        = answerDuplicate ⟨q, frameCrc k q p, reply⟩ (s.withLnk s.lnk.counted) :=
      judgeTaken_duplicate hh hk (duplicateOf_cached hcache)
    rw [exec_frame hc, receiveFrame_canTake h, hduplicate]
    exact congrArg Host.Outcome.next (endEvent_queueReply_withLnk h.1 ⟨q, reply, .none⟩ rfl rfl rfl rfl)

/-! ### O5 and O6 -/

theorem verdict_admits_iff (n : Nat) : Kind.verdict.admits n = true ↔ ∃ pairs, 1 ≤ pairs ∧ pairs ≤ 32 ∧ n = 3 * pairs := by
  have hadmits : Kind.verdict.admits n = true ↔ n % 3 = 0 ∧ 3 ≤ n ∧ n ≤ 96 := by simp [Kind.admits, and_assoc]
  rw [hadmits]
  constructor
  · exact fun h => ⟨n / 3, by omega⟩
  · rintro ⟨pairs, hlow, hhigh, rfl⟩
    omega

/-- Settles O5: a kind of fixed length admits that length alone. -/
theorem inadmissibleLengthsAreAnsweredBadLength : Obligations.InadmissibleLengthsAreAnsweredBadLength := by
  refine ⟨fun s c kind q p hc hk h hl => ?_, fun k hk n => ?_, fun k hk n => ?_, fun k hk n => ?_, fun k hk n => ?_,
    fun n => beq_iff_eq, fun n => beq_iff_eq, fun n => beq_iff_eq, fun n => beq_iff_eq, fun n => beq_iff_eq, verdict_admits_iff⟩
  · rw [exec_frame hc, receiveFrame_badLength h (code_ne_linkResume hk) (kindOf_code kind) hl]
    rfl
  all_goals fin_cases hk <;> exact beq_iff_eq

theorem code_of_kindOf {b : Byte} {k : Kind} (h : kindOf b = some k) : k.code = b := by
  simpa using List.find?_some h

theorem mem_allKinds (k : Kind) : k ∈ allKinds := by cases k <;> decide

theorem isCommandKind_iff {b : Byte} : isCommandKind b = true ↔ ∃ k : Kind, k.code = b := by
  have hcodes : isCommandKind b = (allKinds.map Kind.code).contains b := rfl
  rw [hcodes, List.contains_iff_mem, List.mem_map]
  exact ⟨fun ⟨k, _, h⟩ => ⟨k, h⟩, fun ⟨k, h⟩ => ⟨k, mem_allKinds k, h⟩⟩

theorem kindOf_eq_none {b : Byte} : kindOf b = none ↔ isCommandKind b = false := by
  rw [← Bool.not_eq_true, isCommandKind_iff]
  constructor
  · rintro h ⟨k, rfl⟩
    rw [kindOf_code] at h
    cases h
  · intro h
    cases hk : kindOf b with
    | none => rfl
    | some k => exact absurd ⟨k, code_of_kindOf hk⟩ h

/-- Settles O6: a well-formed BAD_KIND carries no command's code. -/
theorem badKindIsAnsweredBadKind : Obligations.BadKindIsAnsweredBadKind := by
  refine ⟨fun s k q p hw h => ?_, kindOf_code, fun b k => code_of_kindOf, fun b => kindOf_eq_none⟩
  have hkind : isCommandKind k = false := by
    have hparts : (payloadFits p.length && !isCommandKind k) = true := hw
    simpa using (Bool.and_eq_true_iff.mp hparts).2
  rw [exec_frame rfl, receiveFrame_badKind h (kindOf_eq_none.mpr hkind)]
  rfl

/-! ### O7 -/

section

variable {s : State}

theorem offerFrame_joins (f : Frame) (h : s.lnk.received.length < 4) :
    offerFrame f s = s.withLnk { s.lnk.counted with received := s.lnk.received ++ [f] } := if_pos h

theorem offerFrame_overruns (f : Frame) (h : 4 ≤ s.lnk.received.length) : offerFrame f s = frameError .overrun s :=
  if_neg (not_lt.mpr h)

/-- In a settled part a full reply queue stands behind a busy transmitter (R166). -/
theorem sending_of_fullReplies (h : Settled s) (hr : 4 ≤ s.lnk.replies.length) : s.lnk.sending.isSome = true := by
  rw [Option.isSome_iff_ne_none]
  intro hsending
  rw [(h.2.1 hsending).2.1] at hr
  exact absurd hr (by decide)

theorem settle_frameError_eq (h : Quiet s) (cause : LinkError) : settle (frameError cause s) = s.afterError cause := by
  unfold State.afterError
  cases hh : s.lnk.hold with
  | true => exact settle_frameError_held h cause hh
  | false => exact settle_frameError h cause hh

/-- A frame that waits changes nothing but LNK. -/
theorem receiveFrame_waits {k q : Byte} {p : List Byte} (h : Settled s) (hbusy : s.cmd ≠ .idle ∨ 4 ≤ s.lnk.replies.length)
    (hroom : s.lnk.received.length < 4) :
    receiveFrame k q p s = s.withLnk { s.lnk.counted with received := s.lnk.received ++ [goodFrame k q p] } := by
  have hend := settled_endEvent
    (settled_withLnk (l := { s.lnk.counted with received := s.lnk.received ++ [goodFrame k q p] }) h rfl rfl rfl rfl)
  unfold receiveFrame
  rw [offerFrame_joins _ hroom]
  exact (settle_of_endEvent hend).trans (takeFrames_none _ (hbusy.imp_right .inr))

theorem receiveFrame_overruns {k q : Byte} {p : List Byte} (h : Settled s) (hbusy : s.cmd ≠ .idle ∨ 4 ≤ s.lnk.replies.length)
    (hfull : 4 ≤ s.lnk.received.length) : receiveFrame k q p s = s.afterError .overrun := by
  have hfree : NoFrameTaken s := hbusy.imp_right fun hr => .inr ⟨sending_of_fullReplies h hr, hr⟩
  unfold receiveFrame
  rw [offerFrame_overruns _ hfull, settle_frameError_eq ⟨h, hfree⟩]

theorem takeFrames_oldest {f : Frame} {fs : List Frame} (k : Nat) (hv : s.lnk.received = f :: fs) (hc : s.cmd = .idle)
    (hr : s.lnk.replies.length < 4) :
    takeFrames (k + 1) s = takeFrames k (endEvent (judgeTaken f (s.withLnk { s.lnk with received := fs }))) := by
  rw [takeFrames, hc, hv]
  exact if_pos hr

end

/-- Settles O7: what CMD cannot take waits or overruns, and it takes the oldest of what waits while it can. -/
theorem framesWaitInTheReceiveQueue : Obligations.FramesWaitInTheReceiveQueue := by
  refine ⟨fun s c k q p hc h hbusy => ⟨fun hroom => ?_, fun hfull => ?_⟩, fun s f fs hv hc hr => ?_, fun s h => ?_,
    fun s c k q p hc h => ?_⟩
  · rw [exec_frame hc, receiveFrame_waits h hbusy hroom]
    rfl
  · rw [exec_frame hc, receiveFrame_overruns h hbusy hfull.ge]
  · rw [hv]
    exact takeFrames_oldest fs.length hv hc hr
  · refine takeFrames_none _ ?_
    rcases h with hv | hc | hr
    · exact .inr (.inl hv)
    · exact .inl hc
    · exact .inr (.inr hr)
  · rw [exec_frame hc, receiveFrame_canTake h]
    rfl

/-! ### O8, O9 and O10 -/

/-- Settles O8: IDENTIFY reads the rate alone, and its other bytes are the part's constants. -/
theorem identifyReplies : Obligations.IdentifyReplies := fun _ _ h =>
  exec_answers (k := .identify) rfl (by decide) h rfl rfl

theorem commandSetLink_names (c : RateCode) (s : State) :
    commandSetLink [byteOf c.val] s = (s, ⟨.ok, [byteOf c.val], .setRate c⟩) := by
  have hcode : finOf 4 (byteAt [byteOf c.val] 0) = some c := finOf_lane c
  unfold commandSetLink
  rw [hcode]
  rfl

theorem commandSetLink_refuses {b : Byte} (h : 3 < b.toNat) (s : State) :
    commandSetLink [b] s = (s, ⟨.badArgument, [], .none⟩) := by
  have hcode : finOf 4 (byteAt [b] 0) = none := finOf_eq_none h
  unfold commandSetLink
  rw [hcode]
  rfl

/-- Settles O9: the code is a rate's or is refused, and the reply's effect carries it. -/
theorem setLinkNamesTheRate : Obligations.SetLinkNamesTheRate := fun _ _ =>
  ⟨fun c h => exec_answers (k := .setLink) rfl (by decide) h rfl (congrArg some (commandSetLink_names c _)),
    fun _ hb h => exec_answers (k := .setLink) rfl (by decide) h rfl (congrArg some (commandSetLink_refuses hb _))⟩

theorem takeLinkResume_clears (q : Byte) (s : State) :
    takeLinkResume (goodFrame 0x03 q []) s =
      queueReply ⟨q, [0x03, 0x00, boolByte s.lnk.hold] ++ lastTakenBytes s.lnk.lastTaken ++ littleEndian 2 s.lnk.discards, .none⟩
        (s.withLnk { s.lnk with hold := false }) := rfl

theorem takeLinkResume_badLength (q : Byte) {p : List Byte} (hp : p ≠ []) (s : State) :
    takeLinkResume (goodFrame 0x03 q p) s = queueReply ⟨q, [0x03, 0x11], .none⟩ s := by
  have hlength : (goodFrame 0x03 q p).payload.length ≠ 0 := fun h => hp (List.length_eq_zero_iff.mp h)
  unfold takeLinkResume
  rw [if_neg hlength]
  rfl

/-- Settles O10: LINK_RESUME goes ahead of hold and of the reply cache, so that nothing of LNK but hold changes beside the reply; of
the rest only ATTN can follow. -/
theorem linkResumeClearsHold : Obligations.LinkResumeClearsHold := by
  refine fun s q h => ⟨?_, fun p hp _ => ?_⟩
  · rw [exec_frame rfl, receiveFrame_canTake h, judgeTaken_linkResume rfl, takeLinkResume_clears]
    have hidle : s.lnk.sending = none → s.lnk.notice = none ∧ s.lnk.replies = [] := fun hsending =>
      ⟨(h.1.2.1 hsending).1, (h.1.2.1 hsending).2.1⟩
    rw [endEvent_queueReply _ (by exact hidle)]
    unfold concluded
    rw [latch_of_not_due (by exact h.1.1)]
    rfl
  · rw [exec_frame rfl, receiveFrame_canTake h, judgeTaken_linkResume rfl, takeLinkResume_badLength q hp]
    exact congrArg Host.Outcome.next (endEvent_queueReply_withLnk h.1 _ rfl rfl rfl rfl)

end Sys2Proof.Machine

end

/-! ## Proofs: O38 to O40, the receiver (R152 to R156, R161, R164, R196) -/

section

namespace Sys2Proof.Machine

open Sys2Proof

/-! ### One character in a quiet part -/

/-- The part with its receiver in a state, and nothing else changed. -/
def State.receiving (r : Receiver) (s : State) : State := s.withLnk { s.lnk with receiver := r }

theorem receiving_receiving (r q : Receiver) (s : State) : (s.receiving r).receiving q = s.receiving q := rfl

theorem receiving_self {r : Receiver} {s : State} (h : s.lnk.receiver = r) : s.receiving r = s := by rw [← h]; rfl

section

variable {s : State}

/-- Nothing follows a change of the receiver alone. -/
theorem Quiet.receiving (h : Quiet s) (r : Receiver) : Quiet (s.receiving r) :=
  ⟨settled_withLnk h.1 rfl rfl rfl rfl, h.2⟩

theorem judgeFrame_agrees {len low high : Byte} {stored : List Byte} (hcrc : crcOf (len :: stored) = high ++ low) :
    judgeFrame len stored low high s = offerFrame (frameOf stored low high) (s.receiving .hunt) := if_pos hcrc

theorem judgeFrame_disagrees {len low high : Byte} {stored : List Byte} (hcrc : crcOf (len :: stored) ≠ high ++ low) :
    judgeFrame len stored low high s = frameError .crc s := if_neg hcrc

theorem settle_receiving (h : Quiet s) (r : Receiver) : settle (s.receiving r) = s.receiving r := settle_quiet (h.receiving r)

theorem exec_character_broken (hb : s.lnk.broken = true) (v : Byte) (stop : Bool) :
    exec (.characterReceived v stop) s = .next (settle s) := by
  rw [exec_eq_settle]
  exact congrArg (Host.Outcome.next ∘ settle) (if_pos hb)

variable (hb : s.lnk.broken = false)

include hb

theorem exec_character (v : Byte) : exec (.characterReceived v false) s = .next (settle (takeCharacter v s)) := by
  have hnot : ¬ s.lnk.broken = true := by rw [hb]; exact Bool.false_ne_true
  rw [exec_eq_settle]
  exact congrArg (Host.Outcome.next ∘ settle) (if_neg hnot)

theorem exec_framingError (v : Byte) : exec (.characterReceived v true) s = .next (settle (takeFramingError s)) := by
  have hnot : ¬ s.lnk.broken = true := by rw [hb]; exact Bool.false_ne_true
  rw [exec_eq_settle]
  exact congrArg (Host.Outcome.next ∘ settle) (if_neg hnot)

/-! ### The receiver's states (R152) -/

variable (h : Quiet s)

include h

/-- A character that only moves the receiver on. -/
theorem exec_character_moves {v : Byte} {r : Receiver} (ht : takeCharacter v s = s.receiving r) :
    exec (.characterReceived v false) s = .next (s.receiving r) := by
  rw [exec_character hb, ht, settle_receiving h]

theorem exec_character_start (hr : s.lnk.receiver = .hunt) :
    exec (.characterReceived 0xA5 false) s = .next (s.receiving .length) := by
  refine exec_character_moves hb h ?_
  unfold takeCharacter
  rw [hr]
  rfl

/-- Noise is counted, and the hunt goes on (R152, R153). -/
theorem exec_character_noise (hr : s.lnk.receiver = .hunt) {v : Byte} {stop : Bool} (hv : v ≠ 0xA5 ∨ stop = true) :
    exec (.characterReceived v stop) s =
      .next (s.withLnk { s.lnk with counters := { s.lnk.counters with noise := s.lnk.counters.noise + 1 } }) := by
  have hcounted := settle_withLnk (l := { s.lnk with counters := { s.lnk.counters with noise := s.lnk.counters.noise + 1 } }) h
    rfl rfl rfl rfl rfl
  cases stop with
  | true =>
    have hnoise : takeFramingError s =
        s.withLnk { s.lnk with counters := { s.lnk.counters with noise := s.lnk.counters.noise + 1 } } := by
      unfold takeFramingError
      rw [hr]
      rfl
    rw [exec_framingError hb, hnoise, hcounted]
  | false =>
    have hnoise : takeCharacter v s =
        s.withLnk { s.lnk with counters := { s.lnk.counters with noise := s.lnk.counters.noise + 1 } } := by
      unfold takeCharacter
      rw [hr]
      exact if_neg (hv.resolve_right Bool.false_ne_true)
    rw [exec_character hb, hnoise, hcounted]

theorem exec_character_length (hr : s.lnk.receiver = .length) {v : Byte} (hlow : 2 ≤ v.toNat) (hhigh : v.toNat ≤ 250) :
    exec (.characterReceived v false) s = .next (s.receiving (.body v [])) := by
  refine exec_character_moves hb h ?_
  unfold takeCharacter
  rw [hr]
  exact if_pos ⟨hlow, hhigh⟩

/-- A character of the body is stored, and the last of LEN brings the CRC. -/
theorem exec_character_body {len : Byte} {stored : List Byte} (hr : s.lnk.receiver = .body len stored) (v : Byte) :
    exec (.characterReceived v false) s = .next (s.receiving
      (if stored.length + 1 < len.toNat then .body len (stored ++ [v]) else .crc len (stored ++ [v]) none)) := by
  have hnext : (if len.toNat ≤ (stored ++ [v]).length then Receiver.crc len (stored ++ [v]) none else .body len (stored ++ [v]))
      = if stored.length + 1 < len.toNat then .body len (stored ++ [v]) else .crc len (stored ++ [v]) none := by
    rw [List.length_append, List.length_singleton]
    split
    next hle => exact (if_neg (not_lt.mpr hle)).symm
    next hlt => exact (if_pos (not_le.mp hlt)).symm
  refine exec_character_moves hb h ?_
  unfold takeCharacter
  rw [hr, ← hnext]
  rfl

theorem exec_character_crcLow {len : Byte} {stored : List Byte} (hr : s.lnk.receiver = .crc len stored none) (v : Byte) :
    exec (.characterReceived v false) s = .next (s.receiving (.crc len stored (some v))) := by
  refine exec_character_moves hb h ?_
  unfold takeCharacter
  rw [hr]
  rfl

omit h

theorem exec_character_crcHigh {len low : Byte} {stored : List Byte} (hr : s.lnk.receiver = .crc len stored (some low)) (v : Byte) :
    exec (.characterReceived v false) s = .next (settle (judgeFrame len stored low v s)) := by
  have htake : takeCharacter v s = judgeFrame len stored low v s := by
    unfold takeCharacter
    rw [hr]
  rw [exec_character hb, htake]

/-- A frame whose CRC agrees arrives as its bytes say (R152, R156). -/
theorem exec_character_completes {kind seq low v : Byte} {payload : List Byte}
    (hr : s.lnk.receiver = .crc (byteOf (payload.length + 2)) (kind :: seq :: payload) (some low))
    (hcrc : v ++ low = frameCrc kind seq payload) :
    exec (.characterReceived v false) s = .next (receiveFrame kind seq payload (s.receiving .hunt)) := by
  have hframe : frameOf (kind :: seq :: payload) low v = ⟨kind, seq, payload, frameCrc kind seq payload⟩ := by
    rw [← hcrc]
    rfl
  rw [exec_character_crcHigh hb hr, judgeFrame_agrees hcrc.symm, hframe]
  rfl

end

/-- Settles O38: the states of the receiver one by one. -/
theorem charactersAdvanceTheReceiver : Obligations.CharactersAdvanceTheReceiver := by
  intro s v h
  refine ⟨fun hb stop => ?_, fun hb hr => ⟨fun hv => ?_, fun stop hv => ?_⟩, fun hb hr hlow hhigh => ?_,
    fun len stored hr hb => ?_, fun len stored hr hb => ?_, fun kind seq low payload hr hb _ hcrc => ?_⟩
  · rw [exec_character_broken hb, settle_quiet h]
  · rw [hv]
    exact exec_character_start hb h hr
  · exact exec_character_noise hb h hr hv
  · exact exec_character_length hb h hr hlow hhigh
  · exact exec_character_body hb h hr v
  · exact exec_character_crcLow hb h hr v
  · exact exec_character_completes hb hr hcrc

/-! ### The frame errors (R153 to R155) -/

section

variable {s : State}

theorem takeCharacter_badLength (hr : s.lnk.receiver = .length) {v : Byte} (hv : v.toNat < 2 ∨ 250 < v.toNat) :
    takeCharacter v s = frameError .length s := by
  unfold takeCharacter
  rw [hr]
  exact if_neg (by omega)

theorem takeFramingError_inFrame (hr : s.lnk.receiver ≠ .hunt) : takeFramingError s = frameError .character s := by
  unfold takeFramingError
  split
  next hhunt => exact absurd hhunt hr
  all_goals rfl

theorem gapExpiry_inFrame (hr : s.lnk.receiver ≠ .hunt) (hb : s.lnk.broken = false) : gapExpiry s = frameError .truncated s := by
  unfold gapExpiry
  rw [hb]
  split
  next hhunt => exact absurd hhunt hr
  all_goals rfl

theorem gapExpiry_stopped (h : s.lnk.receiver = .hunt ∨ s.lnk.broken = true) : gapExpiry s = s := by
  unfold gapExpiry
  split
  · rfl
  all_goals
    next hr =>
      rw [hr] at h
      exact if_pos (h.resolve_left (by simp))

end

/-- Settles O39: each error is the one `frameError` with its own cause. -/
theorem frameErrorsEnterHold : Obligations.FrameErrorsEnterHold := by
  intro s h
  refine ⟨fun hb hr v hv => ?_, fun hb len stored low hr v hcrc => ?_, fun hb hr => ⟨fun v => ?_, ?_⟩, fun hstopped => ?_⟩
  · rw [exec_character hb, takeCharacter_badLength hr hv, settle_frameError_eq h]
  · rw [exec_character_crcHigh hb hr, judgeFrame_disagrees hcrc, settle_frameError_eq h]
  · rw [exec_framingError hb, takeFramingError_inFrame hr, settle_frameError_eq h]
  · show Host.Outcome.next (settle (gapExpiry s)) = _
    rw [gapExpiry_inFrame hr hb, settle_frameError_eq h]
  · show Host.Outcome.next (settle (gapExpiry s)) = _
    rw [gapExpiry_stopped hstopped, settle_quiet h]

/-! ### The characters of a whole frame (R196) -/

/-- These bytes as characters received one after another, each with its stop bit at mark. -/
def characters (bytes : List Byte) : List Instr := bytes.map fun b => .characterReceived b false

theorem execAll_cons {c : Instr} {s t : State} (cs : List Instr) (h : exec c s = .next t) :
    execAll (c :: cs) s = execAll cs t := by
  rw [execAll, h]

theorem characters_cons (b : Byte) (bytes : List Byte) :
    characters (b :: bytes) = .characterReceived b false :: characters bytes := rfl

theorem characters_append (bytes more : List Byte) : characters (bytes ++ more) = characters bytes ++ characters more :=
  List.map_append

theorem execAll_one {c : Instr} {s t : State} (h : exec c s = .next t) : execAll [c] s = .next t := execAll_cons [] h

section

variable {s : State} (hb : s.lnk.broken = false) (h : Quiet s)

include hb h

/-- The rest of the body is stored, its last character bringing the receiver to the CRC. -/
theorem execAll_body (len : Byte) (rest : List Instr) (bytes : List Byte) : ∀ stored : List Byte, bytes ≠ [] →
    stored.length + bytes.length = len.toNat →
    execAll (characters bytes ++ rest) (s.receiving (.body len stored)) =
      execAll rest (s.receiving (.crc len (stored ++ bytes) none)) := by
  induction bytes with
  | nil => exact fun _ hne => absurd rfl hne
  | cons b bytes ih =>
    intro stored _ hlen
    rw [List.length_cons] at hlen
    have hstored := exec_character_body (s := s.receiving (.body len stored)) hb (h.receiving _) rfl b
    rw [receiving_receiving] at hstored
    rw [characters_cons, List.cons_append, execAll_cons _ hstored]
    cases bytes with
    | nil =>
      rw [if_neg (by rw [List.length_nil] at hlen; omega)]
      rfl
    | cons c bytes =>
      rw [if_pos (by rw [List.length_cons] at hlen; omega),
        ih (stored ++ [b]) (List.cons_ne_nil c bytes) (by rw [List.length_append, List.length_singleton]; omega),
        List.append_assoc, List.singleton_append]

/-- START and LEN, the body, and the two characters of the CRC (R196). -/
theorem execAll_frame {k q len low high : Byte} {p : List Byte} (hr : s.lnk.receiver = .hunt) (hp : p.length ≤ 248)
    (hlen : len = byteOf (p.length + 2)) (hcrc : high ++ low = frameCrc k q p) :
    execAll (characters (0xA5 :: len :: (k :: q :: p) ++ [low, high])) s = .next (receiveFrame k q p s) := by
  have hcount : len.toNat = p.length + 2 := by
    rw [hlen, byteOf, BitVec.toNat_ofNat]
    omega
  have hlength : exec (.characterReceived len false) (s.receiving .length) = .next (s.receiving (.body len [])) :=
    exec_character_length (s := s.receiving .length) hb (h.receiving _) rfl (by omega) (by omega)
  have hbody : execAll (characters (k :: q :: p) ++ characters [low, high]) (s.receiving (.body len [])) =
      execAll (characters [low, high]) (s.receiving (.crc len (k :: q :: p) none)) :=
    execAll_body hb h len _ (k :: q :: p) [] (List.cons_ne_nil k _) (by rw [hcount]; simp)
  have hlow : exec (.characterReceived low false) (s.receiving (.crc len (k :: q :: p) none)) =
      .next (s.receiving (.crc len (k :: q :: p) (some low))) :=
    exec_character_crcLow (s := s.receiving (.crc len (k :: q :: p) none)) hb (h.receiving _) rfl low
  have hhigh : exec (.characterReceived high false) (s.receiving (.crc len (k :: q :: p) (some low))) =
      .next (receiveFrame k q p (s.receiving .hunt)) :=
    exec_character_completes (s := s.receiving (.crc len (k :: q :: p) (some low))) hb (by rw [hlen]; rfl) hcrc
  calc execAll (characters (0xA5 :: len :: (k :: q :: p) ++ [low, high])) s
      = execAll (characters (len :: (k :: q :: p) ++ [low, high])) (s.receiving .length) :=
        execAll_cons _ (exec_character_start hb h hr)
    _ = execAll (characters ((k :: q :: p) ++ [low, high])) (s.receiving (.body len [])) := execAll_cons _ hlength
    _ = execAll (characters [low, high]) (s.receiving (.crc len (k :: q :: p) none)) := by rw [characters_append, hbody]
    _ = execAll (characters [high]) (s.receiving (.crc len (k :: q :: p) (some low))) := execAll_cons _ hlow
    _ = .next (receiveFrame k q p (s.receiving .hunt)) := execAll_one hhigh
    _ = .next (receiveFrame k q p s) := by rw [receiving_self hr]

end

/-- Settles O40: the bytes are a frame's with its CRC, the receiver ends where it began, and the frame arrives there as by its row. -/
theorem charactersSpellTheFrame : Obligations.CharactersSpellTheFrame := by
  intro s c k q p hc hp h hr hb
  rw [exec_frame hc]
  exact execAll_frame hb h hr hp rfl (tag_of_littleEndian (frameCrc k q p))

end Sys2Proof.Machine

end

/-! ## Proofs: O57, the form of the report queue (R172, R173, R176 to R178, R182)

`KeepsReportForm` says of an operation that it keeps the bounds of the report queue and the order of its numbers. It is shown once
for each operation of RPT; TRK, OUT, DET and MOT reach RPT by `passEvent`, `passFault` and `passStatus` alone. -/

section

namespace Sys2Proof.Machine

open Sys2Proof

/-! ### The first fit of a list changed -/

/-- What a change of the elements that fit leaves of them is left of the whole list. -/
theorem map_modifyFirst {α β : Type} {p : α → Bool} {f : α → α} {g : α → β} (hf : ∀ a, p a = true → g (f a) = g a) (l : List α) :
    (modifyFirst p f l).map g = l.map g := by
  induction l with
  | nil => rfl
  | cons a l ih =>
    rw [modifyFirst]
    split
    next ha => rw [List.map_cons, List.map_cons, hf a ha]
    · rw [List.map_cons, List.map_cons, ih]

/-! ### The bounds (R172, R173, R176, R182) -/

/-- The kind of a report: whether it is an EVENT report, and whether a STATUS report. -/
def ReportEntry.kind (e : ReportEntry) : Bool × Bool := (e.body.isEvent, e.body.isStatus)

theorem reportBoundsInv_iff {s : State} : ReportBoundsInv s ↔
    (s.rpt.queue.map ReportEntry.kind).length ≤ 64 ∧ (s.rpt.queue.map ReportEntry.kind).countP (·.1) ≤ 56
      ∧ (s.rpt.queue.map ReportEntry.kind).countP (·.2) ≤ 1 ∧ s.rpt.window ≤ 32 := by
  rw [List.length_map, List.countP_map, List.countP_map, List.countP_eq_length_filter, List.countP_eq_length_filter]
  exact Iff.rfl

/-- A queue that gains no report is within its bounds still. -/
theorem ReportBoundsInv.of_sublist {s t : State} (h : ReportBoundsInv s)
    (hq : (t.rpt.queue.map ReportEntry.kind).Sublist (s.rpt.queue.map ReportEntry.kind)) (hw : t.rpt.window ≤ 32) :
    ReportBoundsInv t := by
  rw [reportBoundsInv_iff] at h ⊢
  obtain ⟨hall, hevents, hstatus, -⟩ := h
  exact ⟨hq.length_le.trans hall, hq.countP_le.trans hevents, hq.countP_le.trans hstatus, hw⟩

theorem ReportBoundsInv.of_kinds {s t : State} (h : ReportBoundsInv s)
    (hq : t.rpt.queue.map ReportEntry.kind = s.rpt.queue.map ReportEntry.kind) (hw : t.rpt.window ≤ 32) : ReportBoundsInv t :=
  h.of_sublist (hq ▸ .refl _) hw

/-- A report has room in the queue by its kind: an EVENT report below 56 reports, a STATUS report where no other stands (R173,
R182). -/
def Rpt.HasRoom (r : Rpt) (b : ReportBody) : Prop :=
  r.queue.length < 64 ∧ (b.isEvent = true → r.queue.length < 56) ∧ (b.isStatus = true → ∀ e ∈ r.queue, e.body.isStatus = false)

theorem ReportBoundsInv.admitted {s t : State} {e : ReportEntry} (h : ReportBoundsInv s) (hroom : s.rpt.HasRoom e.body)
    (hq : t.rpt.queue = s.rpt.queue ++ [e]) (hw : t.rpt.window = s.rpt.window) : ReportBoundsInv t := by
  rw [reportBoundsInv_iff] at h ⊢
  obtain ⟨-, hevents, hstatus, hwindow⟩ := h
  obtain ⟨hall, hevent, hstatuses⟩ := hroom
  rw [hq, hw, List.map_append, List.length_append, List.countP_append, List.countP_append, List.map_singleton,
    List.countP_singleton, List.countP_singleton, List.length_map]
  refine ⟨hall, ?_, ?_, hwindow⟩
  · split
    next he =>
      have hle := List.countP_le_length (p := (·.1)) (l := s.rpt.queue.map ReportEntry.kind)
      rw [List.length_map] at hle
      exact hle.trans_lt (hevent he)
    · exact hevents
  · split
    next he =>
      have hnone : (s.rpt.queue.map ReportEntry.kind).countP (·.2) = 0 := by
        simp only [List.countP_map, List.countP_eq_zero]
        exact fun x hx => Bool.eq_false_iff.mp (hstatuses he x hx)
      rw [hnone]
    · exact hstatus

/-! ### The order (R172, R176 to R178) -/

/-- The sent-unacknowledged reports come before the pending ones (R172). -/
def SentFirst (sent : List Bool) : Prop := sent.Pairwise fun a b => b = true → a = true

theorem reportOrderInv_iff {s : State} : ReportOrderInv s ↔
    s.rpt.queue.length ≤ 64
      ∧ (∀ i n, (s.rpt.queue.map (·.number))[i]? = some n → n = s.rpt.lastAcknowledged + 1 + BitVec.ofNat 16 i)
      ∧ s.rpt.nextNumber = s.rpt.lastAcknowledged + 1 + BitVec.ofNat 16 s.rpt.queue.length
      ∧ SentFirst (s.rpt.queue.map (·.sent)) := by
  have hnumbers : (s.rpt.queue.zipIdx.all fun x => x.1.number == s.rpt.lastAcknowledged + 1 + BitVec.ofNat 16 x.2) = true ↔
      ∀ i n, (s.rpt.queue.map (·.number))[i]? = some n → n = s.rpt.lastAcknowledged + 1 + BitVec.ofNat 16 i := by
    rw [List.all_eq_true]
    constructor
    · intro h i n hi
      rw [List.getElem?_map, Option.map_eq_some_iff] at hi
      obtain ⟨e, he, rfl⟩ := hi
      exact beq_iff_eq.mp (h (e, i) (List.mem_zipIdx_iff_getElem?.mpr he))
    · rintro h ⟨e, i⟩ hx
      have he : s.rpt.queue[i]? = some e := List.mem_zipIdx_iff_getElem?.mp hx
      exact beq_iff_eq.mpr (h i e.number (by rw [List.getElem?_map, he]; rfl))
  unfold ReportOrderInv SentFirst
  rw [hnumbers, List.pairwise_map]

/-- A queue of the same numbers is in order still, if the sent reports come first in it. -/
theorem ReportOrderInv.of_numbers {s t : State} (h : ReportOrderInv s)
    (hq : t.rpt.queue.map (·.number) = s.rpt.queue.map (·.number)) (hn : t.rpt.nextNumber = s.rpt.nextNumber)
    (ha : t.rpt.lastAcknowledged = s.rpt.lastAcknowledged)
    (hsent : SentFirst (s.rpt.queue.map (·.sent)) → SentFirst (t.rpt.queue.map (·.sent))) : ReportOrderInv t := by
  have hlength : t.rpt.queue.length = s.rpt.queue.length := by simpa using congrArg List.length hq
  rw [reportOrderInv_iff] at h ⊢
  obtain ⟨hroom, hnumbers, hnext, hfirst⟩ := h
  rw [hlength, hq, hn, ha]
  exact ⟨hroom, hnumbers, hnext, hsent hfirst⟩

/-- A report admitted takes the next number, and is pending behind all others (R171, R172). -/
theorem ReportOrderInv.admitted {s t : State} {e : ReportEntry} (h : ReportOrderInv s) (hroom : s.rpt.queue.length < 64)
    (he : e.number = s.rpt.nextNumber) (hsent : e.sent = false) (hq : t.rpt.queue = s.rpt.queue ++ [e])
    (hn : t.rpt.nextNumber = s.rpt.nextNumber + 1) (ha : t.rpt.lastAcknowledged = s.rpt.lastAcknowledged) :
    ReportOrderInv t := by
  rw [reportOrderInv_iff] at h ⊢
  obtain ⟨-, hnumbers, hnext, hfirst⟩ := h
  rw [hq, hn, ha, List.length_append, List.map_append, List.map_append]
  refine ⟨hroom, fun i n hi => ?_, ?_, ?_⟩
  · rcases Nat.lt_or_ge i (s.rpt.queue.map (·.number)).length with hlt | hge
    · rw [List.getElem?_append_left hlt] at hi
      exact hnumbers i n hi
    · rw [List.getElem?_append_right hge, List.map_singleton, List.getElem?_singleton] at hi
      rw [List.length_map] at hi hge
      split at hi
      next hlast =>
        rw [← Option.some.inj hi, he, hnext, Nat.le_antisymm (Nat.sub_eq_zero_iff_le.mp hlast) hge]
      · cases hi
  · rw [hnext, BitVec.ofNat_add, BitVec.add_assoc]
    rfl
  · rw [List.map_singleton, hsent]
    exact List.pairwise_append.mpr ⟨hfirst, List.pairwise_singleton _ _, by simp⟩

/-- A pending report begins: it is the oldest of them (R176). -/
theorem SentFirst.begun (l : List ReportEntry) : SentFirst (l.map (·.sent)) →
    SentFirst ((modifyFirst (fun e => !e.sent) (fun e => { e with sent := true, onceSent := true }) l).map (·.sent)) := by
  induction l with
  | nil => exact fun h => h
  | cons e l ih =>
    intro h
    have ⟨hhead, htail⟩ := List.pairwise_cons.mp h
    rw [modifyFirst]
    split
    · exact List.pairwise_cons.mpr ⟨fun _ _ _ => rfl, htail⟩
    next he =>
      have hsent : e.sent = true := by simpa using he
      exact List.pairwise_cons.mpr ⟨fun _ _ _ => hsent, ih htail⟩

/-- Reports returned to pending are none of them sent (R178, R179). -/
theorem SentFirst.returned (l : List ReportEntry) : SentFirst ((l.map fun e => { e with sent := false }).map (·.sent)) := by
  rw [List.map_map]
  refine List.pairwise_map.mpr (List.pairwise_of_forall_mem_list fun _ _ _ _ h => ?_)
  cases h

/-! ### Acknowledgement (R177) -/

section

variable {r : Rpt} {old rest : List ReportEntry} {e : ReportEntry}

theorem through_append (hold : ∀ x ∈ old, x.number ≠ e.number) : through e.number (old ++ e :: rest) = old ++ [e] := by
  induction old with
  | nil => exact if_pos rfl
  | cons x old ih =>
    rw [List.cons_append, through, if_neg (hold x List.mem_cons_self), ih fun y hy => hold y (List.mem_cons_of_mem x hy)]
    rfl

theorem acknowledgeable_iff {n : BitVec 16} : r.acknowledgeable n = true ↔ ∃ x ∈ r.queue, x.sent = true ∧ x.number = n := by
  simp [Rpt.acknowledgeable]

/-- What an acknowledgement removes, and what it leaves. -/
theorem removedBy_append (hq : r.queue = old ++ e :: rest) (hold : ∀ x ∈ old, x.number ≠ e.number)
    (h : r.acknowledgeable e.number = true) : r.removedBy e.number = old ++ [e] := by
  unfold Rpt.removedBy
  rw [if_pos h, hq, through_append hold]

theorem drop_removedBy (hq : r.queue = old ++ e :: rest) (hold : ∀ x ∈ old, x.number ≠ e.number)
    (h : r.acknowledgeable e.number = true) : r.queue.drop (r.removedBy e.number).length = rest := by
  rw [removedBy_append hq hold h, hq, List.append_cons old e rest, List.drop_left]

theorem removedBy_eq_nil {n : BitVec 16} (h : r.acknowledgeable n = false) : r.removedBy n = [] := by
  unfold Rpt.removedBy
  rw [h]
  rfl

/-- The oldest report of an acknowledgeable number. -/
theorem exists_oldest {n : BitVec 16} (h : r.acknowledgeable n = true) :
    ∃ old e rest, r.queue = old ++ e :: rest ∧ e.number = n ∧ ∀ x ∈ old, x.number ≠ e.number := by
  obtain ⟨x, hx, -, hn⟩ := acknowledgeable_iff.mp h
  obtain ⟨e, he⟩ := Option.isSome_iff_exists.mp (List.find?_isSome (p := (·.number == n)).mpr ⟨x, hx, beq_iff_eq.mpr hn⟩)
  obtain ⟨hnumber, old, rest, hq, hold⟩ := List.find?_eq_some_iff_append.mp he
  have heq : e.number = n := by simpa using hnumber
  exact ⟨old, e, rest, hq, heq, fun y hy => by simpa [heq] using hold y hy⟩

end

/-- An acknowledgement that removes reports: the latch is called on to compare, and ENCODER_ERROR is cleared if a STATUS report
among them carried it (R177, R183). -/
theorem acknowledge_removes {s : State} {old rest : List ReportEntry} {e : ReportEntry} (hq : s.rpt.queue = old ++ e :: rest)
    (hold : ∀ x ∈ old, x.number ≠ e.number) (h : s.rpt.acknowledgeable e.number = true) (w : Nat) :
    acknowledge e.number w s = { s with
      rpt := { s.rpt with queue := rest, lastAcknowledged := e.number, window := w, latchDue := true }
      mot := { s.mot with encoderError := s.mot.encoderError && !((old ++ [e]).any fun x => x.carriedEncoderError) } } := by
  have hremoved : (old ++ [e]).isEmpty = false := by simp
  unfold acknowledge
  dsimp only
  rw [drop_removedBy hq hold h, removedBy_append hq hold h, hremoved, if_neg Bool.false_ne_true]
  cases (old ++ [e]).any fun x => x.carriedEncoderError with
  | false =>
    rw [if_neg Bool.false_ne_true, Bool.not_false, Bool.and_true]
    rfl
  | true =>
    rw [if_pos rfl, Bool.not_true, Bool.and_false]
    unfold clearEncoderError
    split
    · rfl
    next hclear =>
      rw [← Bool.eq_false_iff.mpr hclear]
      rfl

/-- One that names no sent report removes none (R177). -/
theorem acknowledge_stands {s : State} {n : BitVec 16} (h : s.rpt.acknowledgeable n = false) (w : Nat) :
    acknowledge n w s = { s with rpt := { s.rpt with lastAcknowledged := n, window := w } } := by
  unfold acknowledge
  dsimp only
  rw [removedBy_eq_nil h]
  rfl

theorem ofNat_after (a : BitVec 16) (k i : Nat) :
    a + BitVec.ofNat 16 (k + 1 + i) = a + BitVec.ofNat 16 k + 1 + BitVec.ofNat 16 i := by
  rw [BitVec.ofNat_add, BitVec.ofNat_add, ← BitVec.add_assoc, ← BitVec.add_assoc]
  rfl

/-- The reports behind an acknowledged one follow its number (R177). -/
theorem ReportOrderInv.acknowledge {s t : State} {old rest : List ReportEntry} {e : ReportEntry} (h : ReportOrderInv s)
    (hq : s.rpt.queue = old ++ e :: rest) (ht : t.rpt.queue = rest) (hn : t.rpt.nextNumber = s.rpt.nextNumber)
    (ha : t.rpt.lastAcknowledged = e.number) : ReportOrderInv t := by
  rw [reportOrderInv_iff] at h ⊢
  obtain ⟨hroom, hnumbers, hnext, hfirst⟩ := h
  have hlength : s.rpt.queue.length = old.length + 1 + rest.length := by
    rw [hq, List.length_append, List.length_cons]
    omega
  have hnumber : e.number = s.rpt.lastAcknowledged + 1 + BitVec.ofNat 16 old.length :=
    hnumbers old.length e.number (by rw [hq]; simp)
  rw [ht, hn, ha]
  refine ⟨by omega, fun i n hi => ?_, ?_, ?_⟩
  · have hplace : (s.rpt.queue.map (·.number))[old.length + 1 + i]? = some n := by
      rw [hq, List.map_append, List.getElem?_append_right (by rw [List.length_map]; omega), List.length_map,
        Nat.add_assoc, Nat.add_sub_cancel_left, Nat.add_comm 1 i]
      exact hi
    rw [hnumbers _ n hplace, hnumber, ofNat_after]
  · rw [hnext, hlength, hnumber, ofNat_after]
  · rw [hq, List.map_append, List.map_cons] at hfirst
    exact (List.pairwise_cons.mp (List.pairwise_append.mp hfirst).2.1).2

/-! ### The relation -/

/-- The bounds of the report queue and of W, and the order of the reports, are kept. -/
structure KeepsReportForm (s t : State) : Prop where
  bounds : ReportBoundsInv s → ReportBoundsInv t
  order : ReportOrderInv s → ReportOrderInv t

theorem KeepsReportForm.refl (s : State) : KeepsReportForm s s := ⟨fun h => h, fun h => h⟩

theorem KeepsReportForm.trans {a b c : State} (h : KeepsReportForm a b) (k : KeepsReportForm b c) : KeepsReportForm a c :=
  ⟨fun ha => k.bounds (h.bounds ha), fun ha => k.order (h.order ha)⟩

theorem KeepsReportForm.foldl {α : Type} (f : State → α → State) (h : ∀ s a, KeepsReportForm s (f s a)) (l : List α) :
    ∀ s, KeepsReportForm s (l.foldl f s) := by
  induction l with
  | nil => exact .refl
  | cons a l ih => exact fun s => (h s a).trans (ih (f s a))

/-- A change of entries that leaves each its kind and its number, and W at most as it stood. -/
theorem KeepsReportForm.of_queue {s t : State}
    (hkinds : t.rpt.queue.map ReportEntry.kind = s.rpt.queue.map ReportEntry.kind)
    (hnumbers : t.rpt.queue.map (·.number) = s.rpt.queue.map (·.number))
    (hsent : SentFirst (s.rpt.queue.map (·.sent)) → SentFirst (t.rpt.queue.map (·.sent)))
    (hn : t.rpt.nextNumber = s.rpt.nextNumber) (ha : t.rpt.lastAcknowledged = s.rpt.lastAcknowledged)
    (hw : t.rpt.window ≤ s.rpt.window) : KeepsReportForm s t where
  bounds h := have ⟨_, _, _, hwindow⟩ := h; h.of_kinds hkinds (hw.trans hwindow)
  order h := h.of_numbers hnumbers hn ha hsent

/-- An event that neither passes a report nor acknowledges, sends or returns one, and leaves W. -/
theorem KeepsReportForm.of_same {s t : State} (hq : t.rpt.queue = s.rpt.queue) (hn : t.rpt.nextNumber = s.rpt.nextNumber)
    (ha : t.rpt.lastAcknowledged = s.rpt.lastAcknowledged) (hw : t.rpt.window = s.rpt.window) : KeepsReportForm s t :=
  .of_queue (by rw [hq]) (by rw [hq]) (by rw [hq]; exact fun h => h) hn ha hw.le

theorem KeepsReportForm.of_rpt {s t : State} (h : t.rpt = s.rpt) : KeepsReportForm s t :=
  .of_same (by rw [h]) (by rw [h]) (by rw [h]) (by rw [h])

/-- An operation on a state with the RPT of another. -/
theorem KeepsReportForm.from_same {s u t : State} (h : KeepsReportForm u t) (hu : u.rpt = s.rpt) : KeepsReportForm s t :=
  (KeepsReportForm.of_rpt hu).trans h

/-! ### RPT -/

theorem admitReport_reportForm {b : ReportBody} {s : State} (h : s.rpt.HasRoom b) : KeepsReportForm s (admitReport b s) where
  bounds hs := hs.admitted (e := ⟨s.rpt.nextNumber, s.rpt.lost, s.mot.position, b, false, false⟩) h rfl rfl
  order hs := hs.admitted (e := ⟨s.rpt.nextNumber, s.rpt.lost, s.mot.position, b, false, false⟩) h.1 rfl rfl rfl rfl rfl

theorem passEvent_reportForm {b : ReportBody} (hb : b.isStatus = false) (s : State) : KeepsReportForm s (passEvent b s) := by
  unfold passEvent
  split
  next hroom =>
    have hbelow : s.rpt.queue.length < 56 := hroom
    exact admitReport_reportForm ⟨by omega, fun _ => hbelow, fun h => absurd (hb.symm.trans h) (by decide)⟩
  · exact .of_same rfl rfl rfl rfl

theorem withSuppressed_reportForm {s t : State} {v : FaultValues} {n : Nat} (h : t.rpt = s.rpt.withSuppressed v n) :
    KeepsReportForm s t := by
  unfold Rpt.withSuppressed at h
  split at h <;> exact .of_same (by rw [h]) (by rw [h]) (by rw [h]) (by rw [h])

/-- A fault that coalesces leaves its report a FAULT report. -/
theorem coalesced_kind (e : ReportEntry) : ({ e with body := e.body.coalesced } : ReportEntry).kind = e.kind := by
  unfold ReportEntry.kind
  dsimp only
  cases e.body <;> rfl

theorem passFault_reportForm (v : FaultValues) (s : State) : KeepsReportForm s (passFault v s) := by
  unfold passFault
  split
  · exact .of_queue (map_modifyFirst (fun e _ => coalesced_kind e) _) (map_modifyFirst (fun _ _ => by rfl) _)
      (congrArg SentFirst (map_modifyFirst (fun _ _ => by rfl) _)).mpr rfl rfl le_rfl
  · split
    next hroom =>
      have hadmitted : KeepsReportForm s (admitReport (.fault v 1 (s.rpt.suppressedOf v)) s) :=
        admitReport_reportForm ⟨hroom, (nomatch ·), (nomatch ·)⟩
      exact hadmitted.trans (withSuppressed_reportForm rfl)
    · exact (withSuppressed_reportForm (t := { s with rpt := s.rpt.withSuppressed v _ }) rfl).trans (.of_same rfl rfl rfl rfl)

theorem latchCompare_reportForm (s : State) : KeepsReportForm s (latchCompare s) := by
  cases h : s.comparesQuietly with
  | true => rw [latchCompare_quiet h]; exact .refl s
  | false =>
    rw [latchCompare_reports h]
    unfold State.comparesQuietly at h
    simp only [Bool.or_eq_false_iff, List.any_eq_false, decide_eq_false_iff_not, not_le, Bool.not_eq_true] at h
    obtain ⟨⟨hnone, -⟩, hroom⟩ := h
    have hadmitted : KeepsReportForm s (admitReport (.status s.liveStatus s.maskedDifferences) s) :=
      admitReport_reportForm ⟨hroom, (nomatch ·), fun _ => hnone⟩
    exact hadmitted.trans (.of_same rfl rfl rfl rfl)

theorem latch_reportForm (s : State) : KeepsReportForm s (latch s) := by
  have hdue : KeepsReportForm s { s with rpt := { s.rpt with latchDue := false } } := .of_same rfl rfl rfl rfl
  unfold latch
  split
  · exact hdue.trans (latchCompare_reportForm _)
  · exact .refl s

/-- The offered report is marked sent, in its place (R176). -/
theorem arbitrate_reportForm (s : State) : KeepsReportForm s (arbitrate s) := by
  unfold arbitrate
  split
  · exact .refl s
  · split
    · exact .of_rpt rfl
    · exact .of_rpt rfl
    · exact .of_queue (map_modifyFirst (fun _ _ => by rfl) _) (map_modifyFirst (fun _ _ => by rfl) _) (SentFirst.begun _)
        rfl rfl le_rfl
    · exact .refl s

theorem endEvent_reportForm (s : State) : KeepsReportForm s (endEvent s) :=
  ((latch_reportForm s).trans (arbitrate_reportForm _)).trans (.of_same rfl rfl rfl rfl)

theorem map_returned {β : Type} {g : ReportEntry → β} (hg : ∀ e, g { e with sent := false } = g e) (l : List ReportEntry) :
    (l.map fun e => { e with sent := false }).map g = l.map g := by
  rw [List.map_map]
  exact List.map_congr_left fun e _ => hg e

/-- Every report is returned to pending (R178). -/
theorem replayEntries_reportForm (s : State) : KeepsReportForm s (replayEntries s) :=
  .of_queue (map_returned (fun _ => by rfl) _) (map_returned (fun _ => by rfl) _) (fun _ => SentFirst.returned _) rfl rfl le_rfl

/-- Besides, W is set to 0 (R179). -/
theorem breakReports_reportForm (s : State) : KeepsReportForm s (breakReports s) :=
  (replayEntries_reportForm s).trans (.of_queue rfl rfl (fun h => h) rfl rfl (Nat.zero_le _))

/-- RPT after a reset has an empty queue (R187). -/
theorem KeepsReportForm.of_reset {s t : State} (h : t.rpt = .reset) : KeepsReportForm s t := by
  refine ⟨fun _ => ?_, fun _ => ?_⟩
  · unfold ReportBoundsInv
    rw [h]
    decide
  · unfold ReportOrderInv
    rw [h]
    decide

/-! ### The line state and the removal of items -/

theorem withDue_reportForm (changed : Bool) (s : State) : KeepsReportForm s (s.withDue changed) := .of_same rfl rfl rfl rfl

theorem setLine_reportForm (l : LineState) (s : State) : KeepsReportForm s (setLine l s) := by
  rw [setLine_eq]
  exact .of_same rfl rfl rfl rfl

theorem removeItem_reportForm (i : Item) (d : Disposition) (s : State) : KeepsReportForm s (removeItem i d s) := by
  have hleft : KeepsReportForm s { s with trk := { s.trk with table := s.trk.table.filter fun j => j.tag != i.tag } } := .of_rpt rfl
  have hdone := hleft.trans (passEvent_reportForm (b := .itemDone i d) rfl _)
  have hempty (u : State) : KeepsReportForm u (tableEmptyNotice u) := by
    rw [tableEmptyNotice_eq]
    exact .of_same rfl rfl rfl rfl
  unfold removeItem
  dsimp only
  rw [passStatus_if]
  exact (hdone.trans (withDue_reportForm _ _)).trans (hempty _)

theorem retireIfDone_reportForm (t : Tag) (s : State) : KeepsReportForm s (retireIfDone t s) := by
  unfold retireIfDone
  split
  · exact .refl s
  · split
    · exact removeItem_reportForm _ _ s
    · exact .refl s

/-! ### Notices -/

theorem startNotice_reportForm (t : Tag) (st : StationId) (m l : Bool) (s : State) :
    KeepsReportForm s (startNotice t st m l s) := by
  have hentry (f : Entry → Entry) : KeepsReportForm s (mapEntry t st f s) := .of_rpt rfl
  unfold startNotice
  split
  · exact .refl s
  · split
    · dsimp only
      split
      · exact (hentry _).trans (passEvent_reportForm rfl _)
      · exact hentry _
    · exact .refl s

theorem missNotice_reportForm (t : Tag) (st : StationId) (c : MissCause) (s : State) :
    KeepsReportForm s (missNotice t st c s) := by
  have houtcome : KeepsReportForm s (setOutcome t st (.missed c) s) := .of_rpt rfl
  unfold missNotice
  split
  · exact houtcome.trans (retireIfDone_reportForm t _)
  · exact .refl s

theorem endNoticeFor_reportForm (b : Bool) (s : State) (p : Tag × StationId) : KeepsReportForm s (endNoticeFor b s p) := by
  have hentry (f : Entry → Entry) : KeepsReportForm s (setOutcome p.1 p.2 .fired (mapEntry p.1 p.2 f s)) := .of_rpt rfl
  unfold endNoticeFor
  split
  · exact (hentry _).trans (retireIfDone_reportForm p.1 _)
  · exact .refl s

theorem endNotice_reportForm (ps : List (Tag × StationId)) (b : Bool) (s : State) : KeepsReportForm s (endNotice ps b s) :=
  .foldl _ (endNoticeFor_reportForm b) ps s

/-! ### OUT -/

theorem mapOutput_reportForm (n : OutputId) (f : Output → Output) (s : State) : KeepsReportForm s (mapOutput n f s) := .of_rpt rfl

theorem restOutput_reportForm (n : OutputId) (s : State) : KeepsReportForm s (restOutput n s) := .of_rpt rfl

theorem beginPulse_reportForm (n : OutputId) (p : Pulse) (s : State) : KeepsReportForm s (beginPulse n p s) := .of_rpt rfl

theorem reachTime_reportForm (t : Nat) (s : State) : KeepsReportForm s (reachTime t s) := .of_rpt rfl

theorem endPulse_reportForm (n : OutputId) (b : Bool) (s : State) : KeepsReportForm s (endPulse n b s) := by
  unfold endPulse
  split
  · exact .refl s
  · dsimp only
    refine KeepsReportForm.trans ?_ (endNotice_reportForm _ _ _)
    split
    · exact (restOutput_reportForm n s).trans (mapOutput_reportForm n _ _)
    · exact restOutput_reportForm n s

theorem endIfMet_reportForm (n : OutputId) (s : State) : KeepsReportForm s (endIfMet n s) := by
  unfold endIfMet
  split
  · exact .refl s
  · split
    · exact endPulse_reportForm n false s
    · exact .refl s

theorem tickEnd_reportForm (n : OutputId) (s : State) : KeepsReportForm s (tickEnd n s) := by
  unfold tickEnd
  split
  · exact .refl s
  · split
    · exact endPulse_reportForm n false s
    · exact .refl s

theorem takeStart_reportForm (n : OutputId) (l : Bool) (r : Request) (s : State) : KeepsReportForm s (takeStart n l r s) := by
  unfold takeStart
  dsimp only
  refine (mapOutput_reportForm n (fun o => { o with waiting := o.waiting.erase r }) s).trans ?_
  split
  · split
    · exact ((beginPulse_reportForm n _ _).trans (startNotice_reportForm _ _ _ _ _)).trans (endIfMet_reportForm n _)
    · exact (mapOutput_reportForm n _ _).trans (startNotice_reportForm _ _ _ _ _)
    · exact (mapOutput_reportForm n _ _).trans (missNotice_reportForm _ _ _ _)
  · exact missNotice_reportForm _ _ _ _

theorem takeStarts_reportForm (n : OutputId) (rs : List Request) (s : State) : KeepsReportForm s (takeStarts n rs s) :=
  .foldl _ (fun s r => takeStart_reportForm n false r s) rs s

theorem tickOutput_reportForm (k : Nat) (n : OutputId) (s : State) : KeepsReportForm s (tickOutput k n s) :=
  ((takeStarts_reportForm n _ s).trans (tickEnd_reportForm n _)).trans (takeStarts_reportForm n _ _)

theorem tickOutputs_reportForm (o : TickOrder) (ns : List OutputId) (s : State) : KeepsReportForm s (tickOutputs o ns s) :=
  .foldl _ (fun s n => tickOutput_reportForm _ n s) ns s

theorem handRequest_reportForm (n : OutputId) (r : Request) (s : State) : KeepsReportForm s (handRequest n r s) := by
  have hfiled (f : Output → Output) : KeepsReportForm s (setOutcome r.tag r.station .armed (mapOutput n f s)) := .of_rpt rfl
  unfold handRequest
  split
  · exact .of_rpt rfl
  · dsimp only
    split
    · exact (hfiled _).trans (.foldl _ (fun s q => takeStart_reportForm n _ q s) _ _)
    · exact hfiled _

theorem endTimeExpiry_reportForm (n : OutputId) (s : State) : KeepsReportForm s (endTimeExpiry n s) := by
  unfold endTimeExpiry
  split
  · exact .refl s
  · exact (reachTime_reportForm _ s).trans (endIfMet_reportForm n _)

theorem maxOnExpiry_reportForm (n : OutputId) (s : State) : KeepsReportForm s (maxOnExpiry n s) := by
  unfold maxOnExpiry
  split
  · exact .refl s
  · exact (reachTime_reportForm _ s).trans (endPulse_reportForm n true _)

theorem recoveryExpiry_reportForm (n : OutputId) (s : State) : KeepsReportForm s (recoveryExpiry n s) := by
  unfold recoveryExpiry
  split
  · exact .refl s
  · exact .of_rpt rfl

/-! ### TRK -/

theorem firstDecision_reportForm (i : Item) (s : State) : KeepsReportForm s (firstDecision i s) := by
  unfold firstDecision
  split <;> exact .of_rpt rfl

theorem commitEntry_reportForm (t : Tag) (st : StationId) (s : State) : KeepsReportForm s (commitEntry t st s) := by
  unfold commitEntry
  split
  · exact .refl s
  · split
    · dsimp only
      split
      · exact .refl s
      · exact handRequest_reportForm _ _ s
      · split
        · exact (firstDecision_reportForm _ s).trans (handRequest_reportForm _ _ _)
        · exact (firstDecision_reportForm _ s).trans (.of_rpt rfl)
    · exact .refl s

theorem tickTracking_reportForm (s : State) : KeepsReportForm s (tickTracking s) :=
  .foldl _ (fun s (p : Tag × StationId) => (commitEntry_reportForm p.1 p.2 s).trans (retireIfDone_reportForm p.1 _)) _ s

theorem placeItem_reportForm (i : Item) (s : State) : KeepsReportForm s (placeItem i s) := by
  unfold placeItem
  dsimp only
  split <;> exact .of_same rfl rfl rfl rfl

theorem selectPattern_reportForm (t : Tag) (s : State) (st : StationId) : KeepsReportForm s (selectPattern t s st) := by
  unfold selectPattern
  dsimp only
  split
  · split <;> exact .of_rpt rfl
  · exact .refl s

theorem announceItem_reportForm (i : Item) (s : State) : KeepsReportForm s (announceItem i s) := by
  unfold announceItem
  split
  · exact passEvent_reportForm rfl s
  · exact .refl s

theorem createItem_reportForm (r : CreationRequest) (s : State) : KeepsReportForm s (createItem r s) :=
  ((((placeItem_reportForm _ s).trans (.foldl _ (selectPattern_reportForm _) _ _)).trans (announceItem_reportForm _ _)).trans
    (.foldl _ (fun s st => commitEntry_reportForm _ st s) _ _)).trans (retireIfDone_reportForm _ _)

theorem takeRequest_reportForm (n : LaneId) (s : State) : KeepsReportForm s (takeRequest n s) := by
  have htaken (r : CreationRequest) : KeepsReportForm s { s with requests := s.requests.erase r } := .of_rpt rfl
  have hcount (r : CreationRequest) (f : LaneCounters → LaneCounters) (u : State) : KeepsReportForm u (countLane r.lane f u) :=
    .of_rpt rfl
  unfold takeRequest takeCreation
  split
  · exact .refl s
  · split
    · exact (htaken _).trans (hcount _ _ _)
    · split
      · exact ((htaken _).trans (hcount _ _ _)).trans (passFault_reportForm _ _)
      · exact (htaken _).trans (createItem_reportForm _ _)

theorem purgeItem_reportForm (c : PurgeCause) (s : State) (i : Item) : KeepsReportForm s (purgeItem c s i) := by
  have hentry (u : State) (st : StationId) : KeepsReportForm u (purgeEntry i.tag u st) := by
    unfold purgeEntry
    dsimp only
    split <;> exact .of_rpt rfl
  unfold purgeItem
  dsimp only
  refine (KeepsReportForm.foldl _ hentry (i.entries.map (·.station)) s).trans ?_
  split
  · exact .refl _
  · exact removeItem_reportForm _ _ _

theorem purgeItems_reportForm (c : PurgeCause) (scope : Option LaneId) (s : State) : KeepsReportForm s (purgeItems c scope s) :=
  .foldl _ (purgeItem_reportForm c) _ s

theorem haltLine_reportForm (c : PurgeCause) (s : State) : KeepsReportForm s (haltLine c s) :=
  (setLine_reportForm _ s).trans (purgeItems_reportForm c none _)

theorem takePair_reportForm (t : Tag) (b : Byte) (s : State) : KeepsReportForm s (takePair t b s).1 := by
  rw [takePair_trk]
  exact .of_rpt rfl

/-! ### DET -/

theorem overlongTest_reportForm (s : State) (n : LaneId) : KeepsReportForm s (overlongTest s n) := by
  unfold overlongTest
  dsimp only
  split
  · split
    · split <;> exact .of_same rfl rfl rfl rfl
    · exact .refl s
  · exact .refl s

theorem acceptEdge_reportForm (n : LaneId) (edge : Nat) (s : State) : KeepsReportForm s (acceptEdge n edge s) := by
  unfold acceptEdge acceptLeading acceptTrailing
  dsimp only
  split
  · split
    · exact .of_rpt rfl
    · split <;> exact .of_rpt rfl
  · split
    · exact .of_rpt rfl
    all_goals split <;> exact .of_rpt rfl
  · exact .of_rpt rfl
  · exact .of_same rfl rfl rfl rfl

theorem sampleDetector_reportForm (n : LaneId) (level : Bool) (s : State) : KeepsReportForm s (sampleDetector n level s) := by
  have hpins : KeepsReportForm s { s with pins := { s.pins with det := s.pins.det.set n level } } := .of_rpt rfl
  unfold sampleDetector judgeSample startCandidate
  dsimp only
  split
  · refine hpins.trans ?_
    split
    · exact .refl _
    · split
      · exact acceptEdge_reportForm n _ _
      · exact .of_rpt rfl
    · exact .refl _
    · exact .of_rpt rfl
  · exact hpins

theorem debounceExpiry_reportForm (n : LaneId) (s : State) : KeepsReportForm s (debounceExpiry n s) := by
  unfold debounceExpiry
  split
  · exact .refl s
  · exact (reachTime_reportForm _ s).trans (acceptEdge_reportForm n _ _)

/-! ### MOT -/

theorem forwardTick_reportForm (o : TickOrder) (s : State) : KeepsReportForm s (forwardTick o s) := by
  have hadvance : KeepsReportForm s (advancePosition s) := by
    unfold advancePosition
    split <;> exact .of_rpt rfl
  have hmoving (u : State) : KeepsReportForm u (markMoving u) := by
    rw [markMoving_eq]
    exact .of_same rfl rfl rfl rfl
  exact ((((hadvance.trans (hmoving _)).trans (.foldl _ overlongTest_reportForm allLanes _)).trans
    (tickOutputs_reportForm o _ _)).trans (tickTracking_reportForm _)).trans (tickOutputs_reportForm o _ _)

theorem forwardCount_reportForm (o : TickOrder) (s : State) : KeepsReportForm s (forwardCount o s) := by
  rcases Nat.eq_zero_or_pos s.mot.debt with h | h
  · rw [forwardCount_ticks o h]
    exact forwardTick_reportForm o s
  · rw [forwardCount_repays o h]
    exact .of_same rfl rfl rfl rfl

theorem setDebt_reportForm (d : Nat) (s : State) : KeepsReportForm s (setDebt d s) := by
  rw [setDebt_eq]
  exact .of_same rfl rfl rfl rfl

theorem reverseCount_reportForm (s : State) : KeepsReportForm s (reverseCount s) := by
  have hdebt := setDebt_reportForm (s.mot.debt + 1) s
  unfold reverseCount
  dsimp only
  split
  · exact .refl s
  · split
    · exact (hdebt.trans (passFault_reportForm _ _)).trans (haltLine_reportForm _ _)
    · exact hdebt

theorem encoderSample_reportForm (x : Bool × Bool) (o : TickOrder) (s : State) : KeepsReportForm s (encoderSample x o s) := by
  have hpins : KeepsReportForm s { s with pins := { s.pins with encA := x.1, encB := x.2 } } := .of_rpt rfl
  have hsample (f : Mot → Mot) : KeepsReportForm s (mapMot f { s with pins := { s.pins with encA := x.1, encB := x.2 } }) :=
    .of_rpt rfl
  unfold encoderSample
  dsimp only
  split
  · split
    · exact hpins
    · split
      · rw [illegalTransition_eq]
        exact .of_same rfl rfl rfl rfl
      · split
        · exact (hsample _).trans (forwardCount_reportForm o _)
        · exact (hsample _).trans (reverseCount_reportForm _)
  · exact hpins

theorem paceOverflow_reportForm (o : TickOrder) (s : State) : KeepsReportForm s (paceOverflow o s) := by
  have hpace (f : Mot → Mot) : KeepsReportForm s (mapMot f s) := .of_rpt rfl
  unfold paceOverflow
  dsimp only
  split
  · split
    · exact (hpace _).trans (forwardCount_reportForm o _)
    · exact ((hpace _).trans (reachTime_reportForm _ _)).trans (forwardCount_reportForm o _)
  · exact .refl s

theorem makeAdvanceCount_reportForm (o : TickOrder) (s : State) : KeepsReportForm s (makeAdvanceCount o s) := by
  have hmade (c : Cmd) (t : Nat) : KeepsReportForm s (reachTime t { s with cmd := c }) := .of_rpt rfl
  unfold makeAdvanceCount
  split
  · exact (hmade _ _).trans (forwardCount_reportForm o _)
  · exact .refl s

theorem standstillExpiry_reportForm (s : State) : KeepsReportForm s (standstillExpiry s) := by
  unfold standstillExpiry
  split
  · exact .refl s
  · dsimp only
    split <;> exact .of_same rfl rfl rfl rfl

/-! ### Commands -/

theorem commandStart_reportForm (s : State) : KeepsReportForm s (commandStart s).1 := by
  have hpatterns (u : State) (k : Trk) : KeepsReportForm u { u with trk := k } := .of_rpt rfl
  unfold commandStart
  split
  · exact .refl s
  · split
    · exact .refl s
    · exact ((setLine_reportForm .run s).trans (hpatterns _ _)).trans (setDebt_reportForm 0 _)

theorem commandStop_reportForm (s : State) : KeepsReportForm s (commandStop s).1 := by
  unfold commandStop
  split
  · exact setLine_reportForm _ s
  · exact .refl s
  · exact setLine_reportForm _ s
  · exact .refl s

theorem commandHalt_reportForm (s : State) : KeepsReportForm s (commandHalt s).1 := by
  unfold commandHalt
  split
  · exact haltLine_reportForm _ s
  · exact haltLine_reportForm _ s
  · exact .refl s
  · exact .refl s

theorem commandAbort_reportForm (s : State) : KeepsReportForm s (commandAbort s).1 := by
  unfold commandAbort
  split
  · exact .refl s
  all_goals exact (setLine_reportForm _ s).trans (purgeItems_reportForm _ _ _)

theorem commandResume_reportForm (s : State) : KeepsReportForm s (commandResume s).1 := by
  unfold commandResume
  split
  · exact (setLine_reportForm _ s).trans (setDebt_reportForm 0 _)
  all_goals exact .refl s

theorem commandPurge_reportForm (p : List Byte) (s : State) : KeepsReportForm s (commandPurge p s).1 := by
  unfold commandPurge
  split
  · exact .refl s
  · split
    · exact purgeItems_reportForm _ _ s
    · exact purgeItems_reportForm _ _ s
    · exact .refl s
    · exact .refl s

theorem commandForceOutput_reportForm (p : List Byte) (s : State) : KeepsReportForm s (commandForceOutput p s).1 := by
  have hforce (n : OutputId) (a : ForceAction) : KeepsReportForm s (forceByState n a s).1 := by
    unfold forceByState
    split <;> exact .of_rpt rfl
  unfold commandForceOutput
  split
  · split
    · exact .refl s
    · exact hforce _ _
  · exact .refl s

/-- RPT's counters are cleared beside its queue (R188). -/
theorem commandGetCounters_reportForm (p : List Byte) (s : State) : KeepsReportForm s (commandGetCounters p s).1 := by
  have hclear (g : CounterGroup) : KeepsReportForm s (clearCounters g s) := by
    cases g <;> exact .of_same rfl rfl rfl rfl
  unfold commandGetCounters
  split
  · dsimp only
    split
    · exact hclear _
    · exact .refl s
  · exact .refl s

theorem commandApply_reportForm (s : State) : KeepsReportForm s (commandApply s).1 := by
  have houtput (old : Configuration) (u : State) (n : OutputId) : KeepsReportForm u (applyOutput old u n) := by
    unfold applyOutput
    dsimp only
    refine (mapOutput_reportForm n (fun o => { o with level := levelFor (u.outputConfig n).polarity o.state }) u).trans ?_
    split
    · split
      · exact endPulse_reportForm n true _
      · exact restOutput_reportForm n _
      · exact .refl _
      · exact .refl _
    · exact .refl _
  have hblocks : KeepsReportForm s s.motionAndLanesApplied := by
    rw [motionAndLanesApplied_eq]
    exact .of_same rfl rfl rfl rfl
  unfold commandApply
  split
  · exact .refl s
  · rw [applyStaged_eq]
    exact (hblocks.trans (.foldl _ (houtput _) allEight _)).trans (.of_rpt rfl)

theorem acknowledge_reportForm {n : BitVec 16} {w : Nat} {s : State} (hw : w ≤ 32)
    (hn : s.rpt.acknowledgeable n = true ∨ n = s.rpt.lastAcknowledged) : KeepsReportForm s (acknowledge n w s) := by
  cases h : s.rpt.acknowledgeable n with
  | true =>
    obtain ⟨old, e, rest, hq, rfl, hold⟩ := exists_oldest h
    rw [acknowledge_removes hq hold h]
    refine ⟨fun hs => hs.of_sublist (List.Sublist.map _ ?_) hw, fun hs => hs.acknowledge hq rfl rfl rfl⟩
    rw [hq]
    exact (List.sublist_cons_self e rest).trans (List.sublist_append_right old _)
  | false =>
    have hlast : n = s.rpt.lastAcknowledged := hn.resolve_left (by rw [h]; decide)
    rw [acknowledge_stands h, hlast]
    exact ⟨fun hs => hs.of_kinds rfl hw, fun hs => hs.of_numbers rfl rfl rfl fun hsent => hsent⟩

theorem commandReportAck_reportForm (p : List Byte) (s : State) : KeepsReportForm s (commandReportAck p s).1 := by
  unfold commandReportAck
  dsimp only
  split
  · exact .refl s
  next hw =>
    split
    next hn => exact acknowledge_reportForm (not_lt.mp hw) (by simpa using hn)
    · exact .refl s

theorem instantCommand_reportForm (k : Kind) (p : List Byte) (s : State) :
    ∀ x ∈ instantCommand k p s, KeepsReportForm s x.1 := by
  rintro x hx
  have stages (c : Option (Configuration → Configuration)) : KeepsReportForm s (stage c s).1 := by
    cases c <;> exact .of_rpt rfl
  cases k
  case verdict => cases hx
  case advance =>
    obtain ⟨r, -, rfl⟩ := Option.map_eq_some_iff.mp hx
    exact .refl s
  case setLink => cases hx; unfold commandSetLink; split <;> exact .refl s
  case readConfig => cases hx; unfold commandReadConfig; split <;> exact .refl s
  case readItem =>
    cases hx
    unfold commandReadItem
    dsimp only
    split
    · exact .refl s
    · split <;> exact .refl s
  case listItems => cases hx; unfold commandListItems; split <;> exact .refl s
  case getCounters => cases hx; exact commandGetCounters_reportForm p s
  case reportAck => cases hx; exact commandReportAck_reportForm p s
  case replay => cases hx; exact replayEntries_reportForm s
  case start => cases hx; exact commandStart_reportForm s
  case stop => cases hx; exact commandStop_reportForm s
  case halt => cases hx; exact commandHalt_reportForm s
  case abort => cases hx; exact commandAbort_reportForm s
  case resume => cases hx; exact commandResume_reportForm s
  case purge => cases hx; exact commandPurge_reportForm p s
  case setMotion | setLane | setStation | setOutput | setReporting => cases hx; exact stages _
  case apply => cases hx; exact commandApply_reportForm s
  case forceOutput => cases hx; exact commandForceOutput_reportForm p s
  case identify | linkResume | getStatus | resetPart | revert => cases hx; exact .of_rpt rfl

/-! ### LNK and CMD -/

theorem frameError_rpt (cause : LinkError) (s : State) : (frameError cause s).rpt = s.rpt := by
  unfold frameError
  dsimp only
  split <;> rfl

theorem offerFrame_rpt (f : Frame) (s : State) : (offerFrame f s).rpt = s.rpt := by
  unfold offerFrame
  split
  · rfl
  · exact frameError_rpt _ s

theorem takeCharacter_rpt (v : Byte) (s : State) : (takeCharacter v s).rpt = s.rpt := by
  unfold takeCharacter
  split
  · split <;> rfl
  · split
    · rfl
    · exact frameError_rpt _ s
  · rfl
  · rfl
  · unfold judgeFrame
    split
    · exact offerFrame_rpt _ _
    · exact frameError_rpt _ s

theorem takeFramingError_rpt (s : State) : (takeFramingError s).rpt = s.rpt := by
  unfold takeFramingError
  split
  · rfl
  all_goals exact frameError_rpt _ s

theorem gapExpiry_rpt (s : State) : (gapExpiry s).rpt = s.rpt := by
  unfold gapExpiry
  split
  · rfl
  all_goals
    split
    · rfl
    · exact frameError_rpt _ s

theorem finishTaken_rpt (c : Taken) (a : Answer) (s : State) : (finishTaken c a s).rpt = s.rpt := by
  unfold finishTaken
  dsimp only
  split <;> rfl

theorem endAdvance_rpt (s : State) : (endAdvance s).rpt = s.rpt := by
  unfold endAdvance
  split
  · exact finishTaken_rpt _ _ s
  · rfl

theorem takeNextPair_reportForm (s : State) : KeepsReportForm s (takeNextPair s) := by
  unfold takeNextPair
  split
  · dsimp only
    split
    · exact (takePair_reportForm _ _ s).trans (.of_rpt (finishTaken_rpt _ _ _))
    · exact (takePair_reportForm _ _ s).trans (.of_rpt rfl)
  · exact .refl s

theorem endTransmission_reportForm (s : State) : KeepsReportForm s (endTransmission s) := by
  unfold endTransmission transmitEffect
  split
  · exact .refl s
  · split
    · exact .of_rpt rfl
    · exact .of_rpt rfl
    · exact .of_reset rfl

theorem linkReset_reportForm (s : State) : KeepsReportForm s (linkReset s) := by
  have hlink (l : Lnk → Lnk) (c : Cmd) : KeepsReportForm s { mapLnk l s with cmd := c } := .of_rpt rfl
  unfold linkReset
  dsimp only
  split
  · exact .of_reset rfl
  · exact (hlink _ _).trans (breakReports_reportForm _)

theorem executeCommand_reportForm (k : Kind) (f : Frame) (s : State) : KeepsReportForm s (executeCommand k f s) := by
  unfold executeCommand
  split
  next hx => exact (instantCommand_reportForm _ _ s _ hx).trans (.of_rpt rfl)
  · cases k <;> exact .of_rpt rfl

theorem judgeTaken_reportForm (f : Frame) (s : State) : KeepsReportForm s (judgeTaken f s) := by
  unfold judgeTaken takeLinkResume takeCommand
  split
  · exact .of_rpt rfl
  · split
    · split <;> exact .of_rpt rfl
    · split
      · exact .of_rpt rfl
      · dsimp only
        split
        · exact .of_rpt rfl
        · split
          · exact (executeCommand_reportForm _ f _).from_same rfl
          · exact .of_rpt rfl

theorem takeFrames_reportForm (k : Nat) : ∀ s, KeepsReportForm s (takeFrames k s) := by
  induction k with
  | zero => exact .refl
  | succ k ih =>
    intro s
    unfold takeFrames
    split
    · split
      · exact (((judgeTaken_reportForm _ _).trans (endEvent_reportForm _)).trans (ih _)).from_same rfl
      · exact .refl s
    · exact .refl s

/-! ### Every step -/

theorem rowEvent_reportForm (c : Instr) (s : State) : KeepsReportForm s (rowEvent c s) := by
  unfold rowEvent
  split
  · exact .of_rpt (offerFrame_rpt _ s)
  · split
    · exact takeNextPair_reportForm s
    · exact makeAdvanceCount_reportForm _ s
    · exact .of_rpt (endAdvance_rpt s)
    · exact .of_reset rfl
    · split
      · exact .refl s
      · split
        · exact .of_rpt (takeFramingError_rpt s)
        · exact .of_rpt (takeCharacter_rpt _ s)
    · exact .of_rpt (gapExpiry_rpt s)
    · exact .of_rpt rfl
    · exact (linkReset_reportForm _).from_same rfl
    · exact endTransmission_reportForm s
    · exact encoderSample_reportForm _ _ s
    · exact paceOverflow_reportForm _ s
    · exact standstillExpiry_reportForm s
    · exact sampleDetector_reportForm _ _ s
    · exact sampleDetector_reportForm _ _ s
    · exact debounceExpiry_reportForm _ s
    · exact takeRequest_reportForm _ s
    · exact endTimeExpiry_reportForm _ s
    · exact maxOnExpiry_reportForm _ s
    · exact recoveryExpiry_reportForm _ s
    · exact .refl s

theorem settle_reportForm (s : State) : KeepsReportForm s (settle s) := by
  rw [settle_eq]
  exact (endEvent_reportForm s).trans (takeFrames_reportForm _ _)

theorem step_reportForm {s t : State} (h : step s = .next t) : KeepsReportForm s t := by
  unfold step at h
  split at h
  · cases h
    exact .of_rpt rfl
  · rw [exec_eq_settle] at h
    cases h
    exact ((rowEvent_reportForm _ _).trans (settle_reportForm _)).from_same rfl

/-- Settles O57: a report enters behind all others where its kind has room, the oldest pending one begins, an acknowledgement takes
a front part of the queue, and every row acts on RPT by these. -/
theorem reportQueueFormIsKept : Obligations.ReportQueueFormIsKept :=
  ⟨fun _ _ h ht => (step_reportForm ht).bounds h, fun _ _ h ht => (step_reportForm ht).order h⟩

end Sys2Proof.Machine

end

/-! ## Proofs: O11, O13 and O14, the flow control of reports (R177, R178, R183, R184) -/

section

namespace Sys2Proof.Machine

open Sys2Proof

/-- Settles O11: GET_STATUS changes nothing at its owner; the link is out of hold, since the frame was taken. -/
theorem getStatusReplies : Obligations.GetStatusReplies := by
  intro s q h
  have hhold : (s.taking q).lnk.hold = false := h.2.1
  refine exec_answers (k := .getStatus) rfl (by decide) h rfl ?_
  unfold instantCommand commandGetStatus
  rw [hhold]
  rfl

/-- Settles O14: the reports are returned to pending at RPT, and their number is CMD's answer. -/
theorem replayReturnsEntriesToPending : Obligations.ReplayReturnsEntriesToPending := fun _ _ h =>
  exec_completes (k := .replay) rfl (by decide) h rfl rfl rfl

/-! ### REPORT_ACK (R177) -/

/-- REPORT_ACK by its fields: the number, low byte first, and W (R177, R200). -/
theorem commandReportAck_eq (low high b : Byte) (s : State) :
    commandReportAck [low, high, b] s =
      if 32 < b.toNat then (s, answer .badArgument [])
      else if s.rpt.acknowledgeable (high ++ low) || (high ++ low) == s.rpt.lastAcknowledged then
        (acknowledge (high ++ low) b.toNat s, answer .ok [byteOf (s.rpt.removedBy (high ++ low)).length, low, high, b])
      else (s, answer .badArgument []) := by
  have hnumber : BitVec.ofNat 16 (num16 [low, high, b] 0) = high ++ low := ofNat_num16 low high
  have hbytes : littleEndian 2 (high ++ low).toNat = [low, high] := ofNat_num16_eq_iff.mp (ofNat_num16 low high)
  have hwindow : byteOf (num8 [low, high, b] 2) = b := (num8_eq_iff.mp rfl).2
  unfold commandReportAck
  dsimp only
  rw [hnumber, hbytes, hwindow]
  rfl

theorem acknowledgeable_eq_false {r : Rpt} {n : BitVec 16} (h : ∀ e ∈ r.queue, e.sent = true → e.number ≠ n) :
    r.acknowledgeable n = false := by
  rw [Bool.eq_false_iff]
  intro hn
  obtain ⟨e, he, hsent, hnumber⟩ := acknowledgeable_iff.mp hn
  exact h e he hsent hnumber

section

variable {s : State} {low high b : Byte}

theorem commandReportAck_refuses
    (h : 32 < b.toNat ∨ (s.rpt.lastAcknowledged ≠ high ++ low ∧ ∀ e ∈ s.rpt.queue, e.sent = true → e.number ≠ high ++ low)) :
    commandReportAck [low, high, b] s = (s, answer .badArgument []) := by
  rw [commandReportAck_eq]
  rcases h with hw | ⟨hlast, hnone⟩
  · rw [if_pos hw]
  · rw [acknowledgeable_eq_false hnone, Bool.false_or, if_neg fun h => hlast (beq_iff_eq.mp h).symm, ite_self]

theorem commandReportAck_repeats (hw : b.toNat ≤ 32) (hlast : s.rpt.lastAcknowledged = high ++ low)
    (hnone : ∀ e ∈ s.rpt.queue, e.sent = true → e.number ≠ high ++ low) :
    commandReportAck [low, high, b] s =
      ({ s with rpt := { s.rpt with window := b.toNat } }, answer .ok [0, low, high, b]) := by
  have hnot := acknowledgeable_eq_false hnone
  rw [commandReportAck_eq, if_neg (not_lt.mpr hw), if_pos (by rw [hlast, beq_self_eq_true, Bool.or_true]),
    acknowledge_stands hnot, removedBy_eq_nil hnot, ← hlast]
  rfl

theorem commandReportAck_removes {old rest : List ReportEntry} {e : ReportEntry} (hq : s.rpt.queue = old ++ e :: rest)
    (hnumber : e.number = high ++ low) (hw : b.toNat ≤ 32) (hsent : e.sent = true) (hold : ∀ x ∈ old, x.number ≠ e.number) :
    commandReportAck [low, high, b] s =
      ({ s with
        rpt := { s.rpt with queue := rest, lastAcknowledged := e.number, window := b.toNat, latchDue := true }
        mot := { s.mot with encoderError := s.mot.encoderError && !((old ++ [e]).any fun x => x.carriedEncoderError) } },
        answer .ok [byteOf (old.length + 1), low, high, b]) := by
  have hmember : e ∈ s.rpt.queue := by rw [hq]; exact List.mem_append_right old List.mem_cons_self
  have hnamed : s.rpt.acknowledgeable e.number = true := acknowledgeable_iff.mpr ⟨e, hmember, hsent, rfl⟩
  rw [commandReportAck_eq, if_neg (not_lt.mpr hw), ← hnumber, if_pos (by rw [hnamed, Bool.true_or]),
    acknowledge_removes hq hold hnamed, removedBy_append hq hold hnamed, List.length_append]
  rfl

end

/-- Settles O13: the command is one of three by its number and W, and each completes at its owner. -/
theorem reportAckReleasesReports : Obligations.ReportAckReleasesReports := by
  refine ⟨fun s q old e rest hq low high hnumber w hw hsent hold h => ?_,
    fun s q low high b h => ⟨fun hw hlast hnone => ?_, fun hrefused => ?_⟩⟩
  · have hwindow : (byteOf w).toNat = w := by
      rw [byteOf, BitVec.toNat_ofNat]
      omega
    have hcommand := commandReportAck_removes (s := s.taking q) hq hnumber (hwindow.trans_le hw) hsent hold
    rw [hwindow] at hcommand
    exact exec_completes (k := .reportAck) rfl (by decide) h rfl (congrArg some hcommand) rfl
  · exact exec_completes (k := .reportAck) rfl (by decide) h rfl
      (congrArg some (commandReportAck_repeats (s := s.taking q) hw hlast hnone)) rfl
  · exact exec_answers (k := .reportAck) rfl (by decide) h rfl
      (congrArg some (commandReportAck_refuses (s := s.taking q) hrefused))

end Sys2Proof.Machine

end

/-! ## Proofs: O51, the admission of reports and the end of an event (R166, R171, R173, R175, R176, R182, R185) -/

section

namespace Sys2Proof.Machine

open Sys2Proof

section

variable {s : State}

/-! ### Admission (R171, R173, R175) -/

theorem passEvent_admits (b : ReportBody) (h : s.rpt.queue.length < 56) : passEvent b s = admitReport b s := if_pos h

theorem passEvent_drops (b : ReportBody) (h : 56 ≤ s.rpt.queue.length) :
    passEvent b s =
      { s with rpt := { s.rpt with lost := min 255 (s.rpt.lost + 1), lostEvents := s.rpt.lostEvents + 1 } } :=
  if_neg (not_lt.mpr h)

theorem takesFault_eq_true {v w : FaultValues} {occ supp : Nat} {e : ReportEntry} (hbody : e.body = .fault w occ supp)
    (hkind : w.isTrackLost = v.isTrackLost) (hunsent : e.onceSent = false) : e.takesFault v = true := by
  unfold ReportEntry.takesFault
  rw [hbody, hunsent]
  exact Bool.and_eq_true_iff.mpr ⟨beq_iff_eq.mpr hkind, rfl⟩

theorem takesFault_eq_false {v : FaultValues} {e : ReportEntry} (h : e.body.isFaultLike v = true → e.onceSent = true) :
    e.takesFault v = false := by
  unfold ReportEntry.takesFault
  cases hkind : e.body.isFaultLike v with
  | false => rfl
  | true => rw [h hkind]; rfl

/-- The oldest unsent report of the kind takes the fault (R175). -/
theorem passFault_coalesces {v w : FaultValues} {occ supp : Nat} {old rest : List ReportEntry} {e : ReportEntry}
    (hq : s.rpt.queue = old ++ e :: rest) (hbody : e.body = .fault w occ supp) (hkind : w.isTrackLost = v.isTrackLost)
    (hunsent : e.onceSent = false) (hold : ∀ x ∈ old, x.body.isFaultLike v = true → x.onceSent = true) :
    passFault v s = { s with rpt := { s.rpt with
      queue := old ++ { e with body := .fault w (min 65535 (occ + 1)) supp } :: rest } } := by
  have htakes := takesFault_eq_true hbody hkind hunsent
  have hany : s.rpt.queue.any (·.takesFault v) = true :=
    List.any_eq_true.mpr ⟨e, by rw [hq]; exact List.mem_append_right old List.mem_cons_self, htakes⟩
  unfold passFault
  rw [if_pos hany, hq, modifyFirst_append (fun x hx => takesFault_eq_false (hold x hx)) htakes, hbody]
  rfl

section

variable {v : FaultValues} (h : ∀ x ∈ s.rpt.queue, x.body.isFaultLike v = true → x.onceSent = true)

include h

theorem any_takesFault : ¬ s.rpt.queue.any (·.takesFault v) = true := by
  rw [Bool.not_eq_true, List.any_eq_false]
  exact fun x hx => Bool.eq_false_iff.mp (takesFault_eq_false (h x hx))

theorem passFault_admits (hroom : s.rpt.queue.length < 64) :
    passFault v s = (admitReport (.fault v 1 (s.rpt.suppressedOf v)) s).withRpt
      ((admitReport (.fault v 1 (s.rpt.suppressedOf v)) s).rpt.withSuppressed v 0) := by
  unfold passFault
  rw [if_neg (any_takesFault h)]
  exact if_pos hroom

theorem passFault_suppresses (hfull : 64 ≤ s.rpt.queue.length) :
    passFault v s = s.withRpt { s.rpt.withSuppressed v (min 65535 (s.rpt.suppressedOf v + 1)) with
      suppressedFaults := s.rpt.suppressedFaults + 1 } := by
  unfold passFault
  rw [if_neg (any_takesFault h)]
  exact if_neg (not_lt.mpr hfull)

end

/-! ### The latch (R182) -/

theorem comparesQuietly_iff : s.comparesQuietly = true ↔
    (∃ e ∈ s.rpt.queue, e.body.isStatus = true) ∨ s.maskedDifferences = 0 ∨ 64 ≤ s.rpt.queue.length := by
  simp only [State.comparesQuietly, Bool.or_eq_true, List.any_eq_true, beq_iff_eq, decide_eq_true_eq, or_assoc]
  exact Iff.rfl

theorem comparesQuietly_eq_false (hnone : ∀ e ∈ s.rpt.queue, e.body.isStatus = false) (hchanged : s.maskedDifferences ≠ 0)
    (hroom : s.rpt.queue.length < 64) : s.comparesQuietly = false := by
  rw [Bool.eq_false_iff, ne_eq, comparesQuietly_iff]
  rintro (⟨e, he, hstatus⟩ | hzero | hfull)
  · exact absurd (hstatus.symm.trans (hnone e he)) (by decide)
  · exact hchanged hzero
  · exact absurd hfull (not_le.mpr hroom)

/-! ### The end of an event (R166, R176, R185) -/

/-- The latch compares, the arbiter chooses, and ATTN follows. -/
theorem endEvent_follows {t : State} (h : arbitrate (latch s) = t) :
    endEvent s = { t with rpt := { t.rpt with attention := t.attentionDue } } := by
  unfold endEvent
  rw [h]

theorem latch_lnk (s : State) : (latch s).lnk = s.lnk := (latch_keeps s).lnk

section

variable (hs : s.lnk.sending = none)

include hs

theorem arbitrate_latch_notice {n : Notice} (hn : s.lnk.notice = some n) : arbitrate (latch s) =
    { latch s with lnk := { s.lnk with notice := none, sending := some ⟨0xE0, 0, n.payload, .none⟩ } } := by
  rw [← latch_lnk s] at hs hn ⊢
  exact arbitrate_notice hs hn

variable (hn : s.lnk.notice = none)

include hn

theorem arbitrate_latch_reply {r : Reply} {rs : List Reply} (hr : s.lnk.replies = r :: rs) : arbitrate (latch s) =
    { latch s with lnk := { s.lnk with replies := rs, sending := some ⟨0x80, r.seq, r.payload, r.effect⟩ } } := by
  rw [← latch_lnk s] at hs hn hr ⊢
  exact arbitrate_reply hs hn hr

variable (hr : s.lnk.replies = [])

include hr

theorem arbitrate_latch_report {old rest : List ReportEntry} {e : ReportEntry} (hq : (latch s).rpt.queue = old ++ e :: rest)
    (hold : ∀ x ∈ old, x.sent = true) (he : e.sent = false) (hw : (latch s).rpt.sentCount < (latch s).rpt.window) :
    arbitrate (latch s) = { latch s with
      lnk := { s.lnk with sending := some ⟨e.body.kindCode, 0, e.payload, .none⟩ }
      rpt := { (latch s).rpt with queue := old ++ { e with sent := true, onceSent := true } :: rest } } := by
  rw [← latch_lnk s] at hs hn hr ⊢
  rw [arbitrate_report hs hn hr (offered_oldest hq hold he hw), begun_oldest hq hold he]

omit hs in
theorem arbitrate_latch_nothing
    (h : (latch s).rpt.window ≤ (latch s).rpt.sentCount ∨ ∀ x ∈ (latch s).rpt.queue, x.sent = true) :
    arbitrate (latch s) = latch s := by
  rw [← latch_lnk s] at hn hr
  exact arbitrate_nothing fun _ => ⟨hn, hr, offered_none h⟩

end

end

/-- Settles O51: each clause is one branch of the operation it is about, and at the end of an event the arbiter chooses from LNK as
the event left it and from RPT as the latch left it. -/
theorem reportsAreAdmitted : Obligations.ReportsAreAdmitted := by
  refine fun s => ⟨fun b => ⟨passEvent_admits b, passEvent_drops b⟩, fun v => ⟨?_, fun h => ⟨fun hroom => ?_, fun hfull => ?_⟩⟩,
    ⟨fun h => latchCompare_quiet (comparesQuietly_iff.mpr h), fun hnone hchanged hroom =>
      latchCompare_reports (comparesQuietly_eq_false hnone hchanged hroom)⟩,
    fun h => if_pos h, latch_of_not_due, rfl, endEvent_busy, fun hs => ⟨fun n hn => ?_, fun r rs hr hn => ?_, ?_, ?_⟩⟩
  · exact fun old rest e hq w occ supp hbody hkind hunsent hold => passFault_coalesces hq hbody hkind hunsent hold
  · rw [passFault_admits h hroom]
    unfold Rpt.withSuppressed Rpt.suppressedOf
    cases v.isTrackLost <;> rfl
  · rw [passFault_suppresses h hfull]
    unfold Rpt.withSuppressed Rpt.suppressedOf
    cases v.isTrackLost <;> rfl
  · exact endEvent_follows (arbitrate_latch_notice hs hn)
  · exact endEvent_follows (arbitrate_latch_reply hs hn hr)
  · exact fun old rest e hq hn hr hold he hw => endEvent_follows (arbitrate_latch_report hs hn hr hq hold he hw)
  · exact fun hn hr h => endEvent_follows (arbitrate_latch_nothing hn hr h)

end Sys2Proof.Machine

end

/-! ## Proofs: O28 and O29, the inspection of the tracking table (R193, R194, R203, R204) -/

section

namespace Sys2Proof.Machine

open Sys2Proof

/-! ### READ_ITEM (R193, R204) -/

/-- The two bytes of a tag field are the tag's, the low one first (R197). -/
theorem littleEndian_tag (low high : Byte) : littleEndian 2 (high ++ low).toNat = [low, high] :=
  ofNat_num16_eq_iff.mp (ofNat_num16 low high)

theorem tag_eq_zero_iff {low high : Byte} : high ++ low = (0 : Tag) ↔ low = 0 ∧ high = 0 := by
  rw [← ofNat_num16, ofNat_num16_eq_iff]
  show [(0 : Byte), 0] = [low, high] ↔ _
  rw [List.cons_eq_cons, List.cons_eq_cons, eq_comm, eq_comm (a := (0 : Byte)) (b := high), and_iff_left rfl]

/-- Where no two items have one tag, the search for a tag finds its item at its own index. -/
theorem find?_zipIdx_tag {l : List Item} (hd : (l.map (·.tag)).Nodup) {index : Nat} {i : Item} (hi : l[index]? = some i) :
    (l.zipIdx.find? fun x => x.1.tag == i.tag) = some (i, index) := by
  obtain ⟨hlt, rfl⟩ := List.getElem?_eq_some_iff.mp hi
  refine List.find?_eq_some_iff_getElem.mpr ⟨beq_self_eq_true _, index, by simpa using hlt, by simp, fun j hj => ?_⟩
  have hne : (l.map (·.tag))[j]'(by simp; omega) ≠ (l.map (·.tag))[index]'(by simpa using hlt) :=
    fun h => hj.ne ((hd.getElem_inj_iff).mp h)
  simpa using hne

theorem find?_zipIdx_tag_none {l : List Item} {t : Tag} (h : ∀ i ∈ l, i.tag ≠ t) :
    (l.zipIdx.find? fun x => x.1.tag == t) = none :=
  List.find?_eq_none.mpr fun x hx => by simpa using h x.1 (List.fst_mem_of_mem_zipIdx hx)

section

variable {s : State} {low high : Byte}

theorem commandReadItem_tagZero (h : high ++ low = (0 : Tag)) :
    commandReadItem [low, high] s = (s, answer .badArgument []) := by
  unfold commandReadItem
  dsimp only
  rw [ofNat_num16, if_pos h]

theorem commandReadItem_found {index : Nat} {i : Item} (hi : s.trk.table[index]? = some i) (hinv : TableInv s)
    (ht : i.tag = high ++ low) :
    commandReadItem [low, high] s = (s, answer .ok (i.recordBytes s.lcu.active.stations index)) := by
  obtain ⟨-, hnodup, hzero, -⟩ := hinv
  have hne : high ++ low ≠ (0 : Tag) := fun h =>
    hzero (List.mem_map.mpr ⟨i, List.mem_of_getElem? hi, ht.trans h⟩)
  unfold commandReadItem
  dsimp only
  rw [ofNat_num16, if_neg hne, ← ht, find?_zipIdx_tag hnodup hi]

theorem commandReadItem_notFound (hne : high ++ low ≠ (0 : Tag)) (h : ∀ i ∈ s.trk.table, i.tag ≠ high ++ low) :
    commandReadItem [low, high] s = (s, answer .notFound []) := by
  unfold commandReadItem
  dsimp only
  rw [ofNat_num16, if_neg hne, find?_zipIdx_tag_none h]

end

/-- Settles O28: the tag field names the item at one index at most, and its record is the reply's body. -/
theorem readItemReturnsTheRecord : Obligations.ReadItemReturnsTheRecord := by
  refine fun s q low high h => ⟨fun index i hi hinv ht => ?_, fun hne hnone => ?_, fun hlow hhigh => ?_⟩
  · rw [exec_answers (k := .readItem) rfl (by decide) h rfl
      (congrArg some (commandReadItem_found (s := s.taking q) hi hinv ht)), Item.recordBytes, ht, littleEndian_tag]
    rfl
  · exact exec_answers (k := .readItem) rfl (by decide) h rfl
      (congrArg some (commandReadItem_notFound (s := s.taking q) (fun h => hne (tag_eq_zero_iff.mp h)) hnone))
  · exact exec_answers (k := .readItem) rfl (by decide) h rfl
      (congrArg some (commandReadItem_tagZero (tag_eq_zero_iff.mpr ⟨hlow, hhigh⟩)))

/-! ### LIST_ITEMS (R194, R203) -/

section

variable {s : State} {b k : Byte}

theorem commandListItems_lists {scope : Option LaneId} (hb : scopeOf b = some scope) (hk : k.toNat ≤ 127) :
    commandListItems [b, k] s = (s, answer .ok (byteOf s.trk.table.length :: byteOf (min 16 (s.listed scope k.toNat).length) ::
      boolByte (decide (16 < (s.listed scope k.toNat).length)) ::
      ((s.listed scope k.toNat).take 16).flatMap fun x => x.1.summaryBytes x.2)) := by
  have hindex : inRange 0 127 k.toNat = some k.toNat := inRange_eq_some.mpr ⟨rfl, Nat.zero_le _, hk⟩
  unfold commandListItems
  show (match scopeOf b, inRange 0 127 k.toNat with | some _, some _ => _ | _, _ => _) = _
  rw [hb, hindex, ← List.length_take]

theorem commandListItems_badArgument (h : (3 < b.toNat ∧ b ≠ 0xFF) ∨ 127 < k.toNat) :
    commandListItems [b, k] s = (s, answer .badArgument []) := by
  unfold commandListItems
  show (match scopeOf b, inRange 0 127 k.toNat with | some _, some _ => _ | _, _ => _) = _
  rcases h with ⟨hb, hall⟩ | hk
  · rw [scopeOf_none hb hall]
  · rw [show inRange 0 127 k.toNat = none from if_neg (by omega)]
    cases scopeOf b <;> rfl

end

/-- Settles O29: the items of the scope are listed in table order, of which the reply holds the first 16. -/
theorem listItemsReturnsSummaries : Obligations.ListItemsReturnsSummaries := by
  refine fun s q b k h => ⟨fun scope hb hk => ?_, fun hbad => ?_⟩
  · have hscope : scopeOf b = some scope := hb ▸ scopeOf_scopeByte scope
    exact exec_answers (k := .listItems) rfl (by decide) h rfl
      (congrArg some (commandListItems_lists (s := s.taking q) hscope hk))
  · exact exec_answers (k := .listItems) rfl (by decide) h rfl
      (congrArg some (commandListItems_badArgument (s := s.taking q) hbad))

end Sys2Proof.Machine

end

/-! ## Proofs: O12, the counters (R188 to R190) -/

section

namespace Sys2Proof.Machine

open Sys2Proof

/-! ### The group that a payload names (R189, R200) -/

theorem groupOf_codes (g : CounterGroup) : groupOf g.codes.1 g.codes.2 = some g := by
  cases g with
  | lane n => exact congrArg (Option.map CounterGroup.lane) (finOf_lane n)
  | station n => exact congrArg (Option.map CounterGroup.station) (finOf_output n)
  | output n => exact congrArg (Option.map CounterGroup.output) (finOf_output n)
  | motion | link | reports => rfl

theorem byte_ne_of_lt {x k : Byte} (h : k.toNat < x.toNat) : x ≠ k := ne_of_apply_ne BitVec.toNat h.ne'

/-- No group of the kind and index: the kind is none of the six, or the index is out of its kind's range. -/
theorem groupOf_eq_none {x y : Byte}
    (h : 5 < x.toNat ∨ (x = 0 ∧ 3 < y.toNat) ∨ ((x = 1 ∨ x = 2) ∧ 7 < y.toNat) ∨ (2 < x.toNat ∧ y ≠ 0)) :
    groupOf x y = none := by
  rcases h with hkind | ⟨rfl, hy⟩ | ⟨rfl | rfl, hy⟩ | ⟨hkind, hy⟩
  · have hne (k : Byte) (hk : k.toNat ≤ 5) : x ≠ k := byte_ne_of_lt (hk.trans_lt hkind)
    unfold groupOf
    rw [if_neg (hne 0 (by decide)), if_neg (hne 1 (by decide)), if_neg (hne 2 (by decide)), if_neg (hne 3 (by decide)),
      if_neg (hne 4 (by decide)), if_neg (hne 5 (by decide))]
  · exact congrArg (Option.map CounterGroup.lane) (finOf_eq_none hy)
  · exact congrArg (Option.map CounterGroup.station) (finOf_eq_none hy)
  · exact congrArg (Option.map CounterGroup.output) (finOf_eq_none hy)
  · have hne (k : Byte) (hk : k.toNat ≤ 2) : x ≠ k := byte_ne_of_lt (hk.trans_lt hkind)
    unfold groupOf
    rw [if_neg (hne 0 (by decide)), if_neg (hne 1 (by decide)), if_neg (hne 2 (by decide))]
    simp only [if_neg hy, ite_self]

theorem truthOf_eq_none {z : Byte} (h : 1 < z.toNat) : truthOf z = none := by
  unfold truthOf
  rw [if_neg (byte_ne_of_lt (k := 0) (Nat.zero_lt_of_lt h)), if_neg (byte_ne_of_lt (k := 1) h)]

/-! ### The clearing of a group (R189, R190) -/

/-- LNK with other counters. -/
def Lnk.withCounters (l : Lnk) (c : LinkCounters) : Lnk := { l with counters := c }

/-- A group's members are read from LNK by its counters alone. -/
theorem counters_withLnk_withCounters (s : State) (l : Lnk) (g : CounterGroup) :
    (s.withLnk (l.withCounters s.lnk.counters)).counters g = s.counters g := by
  cases g <;> rfl

theorem clearCounters_zero (g : CounterGroup) (s : State) : ∀ c ∈ (clearCounters g s).counters g, c = 0 := by
  cases g <;> simp [clearCounters, State.counters, countLink, mapLnk, mapMot]

/-- A clearing leaves every other group as it is, that of another lane, station or output included. -/
theorem clearCounters_other {g g' : CounterGroup} (hne : g' ≠ g) (s : State) :
    (clearCounters g s).counters g' = s.counters g' := by
  cases g with
  | lane n =>
    cases g' with
    | lane m =>
      have hm : m ≠ n := fun h => hne (congrArg CounterGroup.lane h)
      simp [clearCounters, State.counters, Quad.get_set_ne _ _ hm]
    | station | output | motion | link | reports => rfl
  | station n =>
    cases g' with
    | station m =>
      have hm : m ≠ n := fun h => hne (congrArg CounterGroup.station h)
      simp [clearCounters, State.counters, Oct.get_set_ne _ _ hm]
    | lane | output | motion | link | reports => rfl
  | output n =>
    cases g' with
    | output m =>
      have hm : m ≠ n := fun h => hne (congrArg CounterGroup.output h)
      simp [clearCounters, State.counters, Oct.get_set_ne _ _ hm]
    | lane | station | motion | link | reports => rfl
  | motion =>
    cases g' with
    | motion => exact absurd rfl hne
    | lane | station | output | link | reports => rfl
  | link =>
    cases g' with
    | link => exact absurd rfl hne
    | lane | station | output | motion | reports => rfl
  | reports =>
    cases g' with
    | reports => exact absurd rfl hne
    | lane | station | output | motion | link => rfl

/-- A clearing changes LNK by its counters alone. -/
theorem clearCounters_lnk (g : CounterGroup) (s : State) :
    (clearCounters g s).lnk = s.lnk.withCounters (clearCounters g s).lnk.counters := by
  cases g <;> rfl

theorem clearCounters_det (g : CounterGroup) (s : State) (n : LaneId) :
    let d := (clearCounters g s).det.get n
    d = { s.det.get n with suppressed := d.suppressed, runt := d.runt, overlong := d.overlong } := by
  cases g with
  | lane m =>
    simp only [clearCounters, mapLane_det, countLane_det, Quad.get_set]
    split_ifs with h
    · rw [h]
    · rfl
  | station | output | motion | link | reports => rfl

theorem clearCounters_out (g : CounterGroup) (s : State) (n : OutputId) :
    let o := (clearCounters g s).out.get n
    o = { s.out.get n with
      started := o.started, merged := o.merged, busyMisses := o.busyMisses, truncated := o.truncated } := by
  cases g with
  | output m =>
    simp only [clearCounters, mapOutput_out, Oct.get_set]
    split_ifs with h
    · rw [h]
    · rfl
  | lane | station | motion | link | reports => rfl

theorem clearCounters_rpt (g : CounterGroup) (s : State) :
    (clearCounters g s).rpt = { s.rpt with
      lostEvents := (clearCounters g s).rpt.lostEvents, suppressedFaults := (clearCounters g s).rpt.suppressedFaults } := by
  cases g <;> rfl

theorem clearCounters_mot (g : CounterGroup) (s : State) :
    (clearCounters g s).mot = { s.mot with illegal := (clearCounters g s).mot.illegal } := by
  cases g <;> rfl

theorem clearCounters_trk (g : CounterGroup) (s : State) :
    (clearCounters g s).trk = { s.trk with
      lanes := (clearCounters g s).trk.lanes, stations := (clearCounters g s).trk.stations } := by
  cases g <;> rfl

/-- What holds no counter stands. -/
theorem clearCounters_keeps (g : CounterGroup) (s : State) :
    (clearCounters g s).pending = s.pending ∧ (clearCounters g s).now = s.now ∧ (clearCounters g s).pins = s.pins
      ∧ (clearCounters g s).lcu = s.lcu ∧ (clearCounters g s).requests = s.requests ∧ (clearCounters g s).cmd = s.cmd
      ∧ (clearCounters g s).drawn = s.drawn := by
  cases g <;> exact ⟨rfl, rfl, rfl, rfl, rfl, rfl, rfl⟩

/-- Neither the latch nor ATTN follows a counter (R182, R185). -/
theorem clearCounters_settled (g : CounterGroup) {s : State} (h : Settled s) : Settled (clearCounters g s) := by
  cases g <;> exact h

/-! ### A row whose command's owner counts on the link -/

theorem withReply_withCounters (l : Lnk) (c : LinkCounters) (r : Reply) :
    (l.withCounters c).withReply r = (l.withReply r).withCounters c := by
  unfold Lnk.withReply
  by_cases h : l.sending.isSome = true
  · rw [if_pos h, if_pos (by exact h)]
    rfl
  · rw [if_neg h, if_neg (by exact h)]
    rfl

/-- The owner changes LNK by its counters alone, and CMD answers (R157, R160). -/
theorem exec_completes_counters {i : Instr} {k : Kind} {s t : State} {q : Byte} {p : List Byte} {a : Answer}
    {c : LinkCounters} (hi : frameOfRow i = some (k.code, q, p)) (hk : k ≠ .linkResume) (h : Takes s k.code q p)
    (hl : k.admits p.length = true) (hx : instantCommand k p (s.taking q) = some (t, a))
    (ht : t.lnk = (s.taking q).lnk.withCounters c) :
    exec i s = .next (concluded (t.withLnk ((s.lnk.afterTaken k.code q p a).withCounters c))) := by
  have hidle : t.lnk.sending = none → t.lnk.notice = none ∧ t.lnk.replies = [] := by
    obtain ⟨⟨⟨-, hwaiting, -⟩, -⟩, -⟩ := h
    rw [ht]
    exact fun hn => ⟨(hwaiting hn).1, (hwaiting hn).2.1⟩
  rw [exec_frame hi, receiveFrame_takes h (code_ne_linkResume hk), takeCommand_admitted (kindOf_code k) hl,
    executeCommand_instant (f := goodFrame k.code q p) hx, goodFrame_kind, goodFrame_seq, goodFrame_crc,
    endEvent_answerTaken _ _ _ _ hidle, ht, Lnk.afterTaken, ← withReply_withCounters]
  rfl

/-! ### GET_COUNTERS (R189) -/

theorem commandGetCounters_refused {x y z : Byte} (s : State) (h : groupOf x y = none ∨ truthOf z = none) :
    commandGetCounters [x, y, z] s = (s, answer .badArgument []) := by
  unfold commandGetCounters
  show (match groupOf x y, truthOf z with | some _, some _ => _ | _, _ => _) = _
  rcases h with h | h
  · rw [h]
  · rw [h]
    cases groupOf x y <;> rfl

/-- The answer to a GET_COUNTERS of a group (R189). -/
def State.countersAnswer (s : State) (g : CounterGroup) (z : Byte) : Answer :=
  answer .ok ([g.codes.1, g.codes.2, z] ++ (s.counters g).flatMap fun c => littleEndian 4 c.toNat)

theorem commandGetCounters_codes (g : CounterGroup) (clear : Bool) (s : State) :
    commandGetCounters [g.codes.1, g.codes.2, boolByte clear] s =
      (if clear then clearCounters g s else s, s.countersAnswer g (boolByte clear)) := by
  have hflag : truthOf (boolByte clear) = some clear := truthOf_eq_some.mpr rfl
  unfold commandGetCounters
  show (match groupOf g.codes.1 g.codes.2, truthOf (boolByte clear) with | some _, some _ => _ | _, _ => _) = _
  rw [groupOf_codes, hflag]
  rfl

theorem exec_getCounters_clears {s : State} {q : Byte} {g : CounterGroup}
    (h : Takes s 0x05 q [g.codes.1, g.codes.2, 1]) :
    exec (.getCounters q [g.codes.1, g.codes.2, 1]) s =
      .next ((clearCounters g (s.taking q)).withLnk
        ((s.lnk.afterTaken 0x05 q [g.codes.1, g.codes.2, 1] ((s.taking q).countersAnswer g 1)).withCounters
          (clearCounters g (s.taking q)).lnk.counters)) := by
  rw [exec_completes_counters (k := .getCounters) rfl (by decide) h rfl
    (congrArg some (commandGetCounters_codes g true (s.taking q))) (clearCounters_lnk g (s.taking q))]
  have hsettled : Settled (clearCounters g (s.taking q)) := clearCounters_settled g (s := s.taking q) h.1.1
  refine congrArg Host.Outcome.next (concluded_of_settled hsettled ?_)
  rw [clearCounters_lnk]
  exact afterTaken_hold s.lnk 0x05 q _ _

/-- Settles O12: the group's members are answered as CMD's taking left them, and `clearCounters` says what the clear flag does,
block by block. -/
theorem getCountersReadsAndClears : Obligations.GetCountersReadsAndClears := by
  refine ⟨fun s q x y z hbad h => ?_, fun s q g => ⟨fun h => ?_, fun h => ?_⟩⟩
  · have hnone : groupOf x y = none ∨ truthOf z = none :=
      Or.imp groupOf_eq_none truthOf_eq_none (by simpa only [or_assoc] using hbad)
    exact exec_answers (k := .getCounters) rfl (by decide) h rfl
      (congrArg some (commandGetCounters_refused (s.taking q) hnone))
  · exact exec_answers (k := .getCounters) rfl (by decide) h rfl
      (congrArg some (commandGetCounters_codes g false (s.taking q)))
  · obtain ⟨hpending, hnow, hpins, hlcu, hrequests, hcmd, hdrawn⟩ := clearCounters_keeps g (s.taking q)
    refine ⟨_, exec_getCounters_clears h, ?_, fun g' hne => ?_, rfl, hpending, hnow, hpins, hlcu,
      clearCounters_mot g _, clearCounters_det g _, hrequests, clearCounters_trk g _, clearCounters_out g _, hcmd,
      clearCounters_rpt g _, hdrawn⟩
    · rw [counters_withLnk_withCounters]
      exact clearCounters_zero g _
    · rw [counters_withLnk_withCounters]
      exact clearCounters_other hne _

end Sys2Proof.Machine

end

/-! ## Proofs: one step (notes/assumptions/3.md and 17.md) -/

section

namespace Sys2Proof.Machine

open Sys2Proof

theorem step_of_pending_cons {s : State} {c : Instr} {rest : List Instr} (h : s.pending = c :: rest) :
    step s = exec c { s with pending := rest } := by
  simp only [step, h]

theorem step_of_pending_nil {s : State} (h : s.pending = []) : step s = .next (idleMicrosecond s) := by
  simp only [step, h]

/-- Settles O1: by the two cases of the queue, an idle step being `idleMicrosecond`, which sets the time base alone. -/
theorem stepRunsTheFrontCommand : Obligations.StepRunsTheFrontCommand :=
  fun _ => ⟨fun _ _ => step_of_pending_cons, step_of_pending_nil⟩

end Sys2Proof.Machine

end
